-- ==== Sys2Proof/Word.lean ====
section
/-! DEFINITION. The word types of the block (spec/00_scope.md R6, R8) and the names of its registers and pair views
(spec/10_state.md R20, R23). -/

namespace Sys2Proof

/-- `u8`: an unsigned 8-bit value (R8). -/
abbrev U8 := BitVec 8

/-- `u16`: an unsigned 16-bit value; also a memory address (R6, R8). -/
abbrev U16 := BitVec 16

/-- A decoded-instruction word, format DI32 (spec/30_encoding.md R100). -/
abbrev Di32 := BitVec 32

/-- The seven general registers (R20). F is separate (R29). -/
inductive Reg
  | A | B | C | D | E | H | L
  deriving DecidableEq, Repr

/-- The three pair views built from two general registers (R23). AF is a view of its own (R24), SP is storage (R27). -/
inductive Pair
  | BC | DE | HL
  deriving DecidableEq, Repr

end Sys2Proof
end

