-- ==== Sys2Proof/Syntax.lean ====
section
/-! DEFINITION. The instructions: one constructor per row of spec/opcode_table.json, in its order, with the operand the row
leaves free: the immediate `n` = K[7:0] (spec/30_encoding.md R106) or the absolute address `nn` = K[15:0] (R107). -/

namespace Sys2Proof

/-- The 189 legal instructions (spec/30_encoding.md R109). -/
inductive Instr
  /-- `LDN(A, #n)` (R131). -/
  | ldnA (n : U8)
  /-- `LDN(B, #n)` (R131). -/
  | ldnB (n : U8)
  /-- `LDN(C, #n)` (R131). -/
  | ldnC (n : U8)
  /-- `LDN(D, #n)` (R131). -/
  | ldnD (n : U8)
  /-- `LDN(E, #n)` (R131). -/
  | ldnE (n : U8)
  /-- `LDN(H, #n)` (R131). -/
  | ldnH (n : U8)
  /-- `LDN(L, #n)` (R131). -/
  | ldnL (n : U8)
  /-- `LDN(BC, #n)` (R132). -/
  | ldnPairBC (n : U8)
  /-- `LDN(DE, #n)` (R132). -/
  | ldnPairDE (n : U8)
  /-- `LDN(HL, #n)` (R132). -/
  | ldnPairHL (n : U8)
  /-- `LDRR(A, A)` (R135). -/
  | ldrrAFromA
  /-- `LDRR(A, B)` (R135). -/
  | ldrrAFromB
  /-- `LDRR(A, C)` (R135). -/
  | ldrrAFromC
  /-- `LDRR(A, D)` (R135). -/
  | ldrrAFromD
  /-- `LDRR(A, E)` (R135). -/
  | ldrrAFromE
  /-- `LDRR(A, H)` (R135). -/
  | ldrrAFromH
  /-- `LDRR(A, L)` (R135). -/
  | ldrrAFromL
  /-- `LDRR(A, (HL))` (R136). -/
  | ldrrAFromMemHL
  /-- `LDRR(B, A)` (R135). -/
  | ldrrBFromA
  /-- `LDRR(B, B)` (R135). -/
  | ldrrBFromB
  /-- `LDRR(B, C)` (R135). -/
  | ldrrBFromC
  /-- `LDRR(B, D)` (R135). -/
  | ldrrBFromD
  /-- `LDRR(B, E)` (R135). -/
  | ldrrBFromE
  /-- `LDRR(B, H)` (R135). -/
  | ldrrBFromH
  /-- `LDRR(B, L)` (R135). -/
  | ldrrBFromL
  /-- `LDRR(B, (HL))` (R136). -/
  | ldrrBFromMemHL
  /-- `LDRR(C, A)` (R135). -/
  | ldrrCFromA
  /-- `LDRR(C, B)` (R135). -/
  | ldrrCFromB
  /-- `LDRR(C, C)` (R135). -/
  | ldrrCFromC
  /-- `LDRR(C, D)` (R135). -/
  | ldrrCFromD
  /-- `LDRR(C, E)` (R135). -/
  | ldrrCFromE
  /-- `LDRR(C, H)` (R135). -/
  | ldrrCFromH
  /-- `LDRR(C, L)` (R135). -/
  | ldrrCFromL
  /-- `LDRR(C, (HL))` (R136). -/
  | ldrrCFromMemHL
  /-- `LDRR(D, A)` (R135). -/
  | ldrrDFromA
  /-- `LDRR(D, B)` (R135). -/
  | ldrrDFromB
  /-- `LDRR(D, C)` (R135). -/
  | ldrrDFromC
  /-- `LDRR(D, D)` (R135). -/
  | ldrrDFromD
  /-- `LDRR(D, E)` (R135). -/
  | ldrrDFromE
  /-- `LDRR(D, H)` (R135). -/
  | ldrrDFromH
  /-- `LDRR(D, L)` (R135). -/
  | ldrrDFromL
  /-- `LDRR(D, (HL))` (R136). -/
  | ldrrDFromMemHL
  /-- `LDRR(E, A)` (R135). -/
  | ldrrEFromA
  /-- `LDRR(E, B)` (R135). -/
  | ldrrEFromB
  /-- `LDRR(E, C)` (R135). -/
  | ldrrEFromC
  /-- `LDRR(E, D)` (R135). -/
  | ldrrEFromD
  /-- `LDRR(E, E)` (R135). -/
  | ldrrEFromE
  /-- `LDRR(E, H)` (R135). -/
  | ldrrEFromH
  /-- `LDRR(E, L)` (R135). -/
  | ldrrEFromL
  /-- `LDRR(E, (HL))` (R136). -/
  | ldrrEFromMemHL
  /-- `LDRR(H, A)` (R135). -/
  | ldrrHFromA
  /-- `LDRR(H, B)` (R135). -/
  | ldrrHFromB
  /-- `LDRR(H, C)` (R135). -/
  | ldrrHFromC
  /-- `LDRR(H, D)` (R135). -/
  | ldrrHFromD
  /-- `LDRR(H, E)` (R135). -/
  | ldrrHFromE
  /-- `LDRR(H, H)` (R135). -/
  | ldrrHFromH
  /-- `LDRR(H, L)` (R135). -/
  | ldrrHFromL
  /-- `LDRR(H, (HL))` (R136). -/
  | ldrrHFromMemHL
  /-- `LDRR(L, A)` (R135). -/
  | ldrrLFromA
  /-- `LDRR(L, B)` (R135). -/
  | ldrrLFromB
  /-- `LDRR(L, C)` (R135). -/
  | ldrrLFromC
  /-- `LDRR(L, D)` (R135). -/
  | ldrrLFromD
  /-- `LDRR(L, E)` (R135). -/
  | ldrrLFromE
  /-- `LDRR(L, H)` (R135). -/
  | ldrrLFromH
  /-- `LDRR(L, L)` (R135). -/
  | ldrrLFromL
  /-- `LDRR(L, (HL))` (R136). -/
  | ldrrLFromMemHL
  /-- `LDRR((HL), A)` (R137). -/
  | ldrrMemHLFromA
  /-- `LDRR((HL), B)` (R137). -/
  | ldrrMemHLFromB
  /-- `LDRR((HL), C)` (R137). -/
  | ldrrMemHLFromC
  /-- `LDRR((HL), D)` (R137). -/
  | ldrrMemHLFromD
  /-- `LDRR((HL), E)` (R137). -/
  | ldrrMemHLFromE
  /-- `LDRR((HL), H)` (R137). -/
  | ldrrMemHLFromH
  /-- `LDRR((HL), L)` (R137). -/
  | ldrrMemHLFromL
  /-- `LDRR((HL), (HL))` (R138). -/
  | ldrrMemHLFromMemHL
  /-- `LDA(A)` (R141). -/
  | ldaFromA
  /-- `LDA(B)` (R141). -/
  | ldaFromB
  /-- `LDA(C)` (R141). -/
  | ldaFromC
  /-- `LDA(D)` (R141). -/
  | ldaFromD
  /-- `LDA(E)` (R141). -/
  | ldaFromE
  /-- `LDA(H)` (R141). -/
  | ldaFromH
  /-- `LDA(L)` (R141). -/
  | ldaFromL
  /-- `LDA((BC))` (R142). -/
  | ldaFromMemBC
  /-- `LDA((DE))` (R142). -/
  | ldaFromMemDE
  /-- `LDA((HL))` (R142). -/
  | ldaFromMemHL
  /-- `LDA((nn))` (R143). -/
  | ldaFromAbs (nn : U16)
  /-- `LDA(#n)` (R144). -/
  | ldaFromImm (n : U8)
  /-- `LDFA(A)` (R146). -/
  | ldfaToA
  /-- `LDFA(B)` (R146). -/
  | ldfaToB
  /-- `LDFA(C)` (R146). -/
  | ldfaToC
  /-- `LDFA(D)` (R146). -/
  | ldfaToD
  /-- `LDFA(E)` (R146). -/
  | ldfaToE
  /-- `LDFA(H)` (R146). -/
  | ldfaToH
  /-- `LDFA(L)` (R146). -/
  | ldfaToL
  /-- `LDFA((BC))` (R147). -/
  | ldfaToMemBC
  /-- `LDFA((DE))` (R147). -/
  | ldfaToMemDE
  /-- `LDFA((HL))` (R147). -/
  | ldfaToMemHL
  /-- `LDFA((nn))` (R148). -/
  | ldfaToAbs (nn : U16)
  /-- `PUSH(BC)` (R171). -/
  | pushBC
  /-- `PUSH(DE)` (R171). -/
  | pushDE
  /-- `PUSH(HL)` (R171). -/
  | pushHL
  /-- `PUSH(AF)` (R171). -/
  | pushAF
  /-- `POP(BC)` (R173). -/
  | popBC
  /-- `POP(DE)` (R173). -/
  | popDE
  /-- `POP(HL)` (R173). -/
  | popHL
  /-- `POP(AF)` (R174). -/
  | popAF
  /-- `ADD(A)` (R184). -/
  | addA
  /-- `ADD(B)` (R184). -/
  | addB
  /-- `ADD(C)` (R184). -/
  | addC
  /-- `ADD(D)` (R184). -/
  | addD
  /-- `ADD(E)` (R184). -/
  | addE
  /-- `ADD(H)` (R184). -/
  | addH
  /-- `ADD(L)` (R184). -/
  | addL
  /-- `ADD((HL))` (R185). -/
  | addMemHL
  /-- `ADD(#n)` (R186). -/
  | addImm (n : U8)
  /-- `ADC(A)` (R188). -/
  | adcA
  /-- `ADC(B)` (R188). -/
  | adcB
  /-- `ADC(C)` (R188). -/
  | adcC
  /-- `ADC(D)` (R188). -/
  | adcD
  /-- `ADC(E)` (R188). -/
  | adcE
  /-- `ADC(H)` (R188). -/
  | adcH
  /-- `ADC(L)` (R188). -/
  | adcL
  /-- `ADC((HL))` (R189). -/
  | adcMemHL
  /-- `ADC(#n)` (R190). -/
  | adcImm (n : U8)
  /-- `SUB(A)` (R192). -/
  | subA
  /-- `SUB(B)` (R192). -/
  | subB
  /-- `SUB(C)` (R192). -/
  | subC
  /-- `SUB(D)` (R192). -/
  | subD
  /-- `SUB(E)` (R192). -/
  | subE
  /-- `SUB(H)` (R192). -/
  | subH
  /-- `SUB(L)` (R192). -/
  | subL
  /-- `SUB((HL))` (R193). -/
  | subMemHL
  /-- `SUB(#n)` (R194). -/
  | subImm (n : U8)
  /-- `SBC(A)` (R196). -/
  | sbcA
  /-- `SBC(B)` (R196). -/
  | sbcB
  /-- `SBC(C)` (R196). -/
  | sbcC
  /-- `SBC(D)` (R196). -/
  | sbcD
  /-- `SBC(E)` (R196). -/
  | sbcE
  /-- `SBC(H)` (R196). -/
  | sbcH
  /-- `SBC(L)` (R196). -/
  | sbcL
  /-- `SBC((HL))` (R197). -/
  | sbcMemHL
  /-- `SBC(#n)` (R198). -/
  | sbcImm (n : U8)
  /-- `CP(A)` (R200). -/
  | cpA
  /-- `CP(B)` (R200). -/
  | cpB
  /-- `CP(C)` (R200). -/
  | cpC
  /-- `CP(D)` (R200). -/
  | cpD
  /-- `CP(E)` (R200). -/
  | cpE
  /-- `CP(H)` (R200). -/
  | cpH
  /-- `CP(L)` (R200). -/
  | cpL
  /-- `CP((HL))` (R201). -/
  | cpMemHL
  /-- `CP(#n)` (R202). -/
  | cpImm (n : U8)
  /-- `INC(A)` (R221). -/
  | incA
  /-- `INC(B)` (R221). -/
  | incB
  /-- `INC(C)` (R221). -/
  | incC
  /-- `INC(D)` (R221). -/
  | incD
  /-- `INC(E)` (R221). -/
  | incE
  /-- `INC(H)` (R221). -/
  | incH
  /-- `INC(L)` (R221). -/
  | incL
  /-- `INC(HL)` (R222). -/
  | incPairHL
  /-- `AND(A)` (R232). -/
  | andA
  /-- `AND(B)` (R232). -/
  | andB
  /-- `AND(C)` (R232). -/
  | andC
  /-- `AND(D)` (R232). -/
  | andD
  /-- `AND(E)` (R232). -/
  | andE
  /-- `AND(H)` (R232). -/
  | andH
  /-- `AND(L)` (R232). -/
  | andL
  /-- `AND((HL))` (R233). -/
  | andMemHL
  /-- `AND(#n)` (R234). -/
  | andImm (n : U8)
  /-- `OR(A)` (R236). -/
  | orA
  /-- `OR(B)` (R236). -/
  | orB
  /-- `OR(C)` (R236). -/
  | orC
  /-- `OR(D)` (R236). -/
  | orD
  /-- `OR(E)` (R236). -/
  | orE
  /-- `OR(H)` (R236). -/
  | orH
  /-- `OR(L)` (R236). -/
  | orL
  /-- `OR((HL))` (R237). -/
  | orMemHL
  /-- `OR(#n)` (R238). -/
  | orImm (n : U8)
  /-- `XOR(A)` (R240). -/
  | xorA
  /-- `XOR(B)` (R240). -/
  | xorB
  /-- `XOR(C)` (R240). -/
  | xorC
  /-- `XOR(D)` (R240). -/
  | xorD
  /-- `XOR(E)` (R240). -/
  | xorE
  /-- `XOR(H)` (R240). -/
  | xorH
  /-- `XOR(L)` (R240). -/
  | xorL
  /-- `XOR((HL))` (R241). -/
  | xorMemHL
  /-- `XOR(#n)` (R242). -/
  | xorImm (n : U8)
  /-- `ADD16(BC)` (R251). -/
  | add16BC
  /-- `ADD16(DE)` (R251). -/
  | add16DE
  /-- `ADD16(HL)` (R251). -/
  | add16HL
  /-- `ADD16(SP)` (R251). -/
  | add16SP
  deriving DecidableEq, Repr

end Sys2Proof
end

