-- ==== Sys2Proof/WellFormed.lean ====
section
/-! DEFINITION. The source's tagged instruction value, any operand tags in it, and which of them are instructions: the
legal combinations of family, destination slot, source slot and literal (spec/30_encoding.md R102 to R109), each refusal
under a name of its own (R113). An `Instr` holds no operand that its type does not already bound, so the checks are on the
tagged value a word splits into; `Instr.wellFormed` (Decode.lean) is this check on an instruction's own tags. -/

namespace Sys2Proof

/-- The sixteen instruction families (spec/30_encoding.md R102). -/
inductive Family
  | ldn | ldrr | lda | ldfa | push | pop | add | adc | sub | sbc | cp | inc | and | or | xor | add16
  deriving DecidableEq, Repr

/-- The operand selectors of R104. -/
inductive Selector
  /-- NONE: the slot is unused. -/
  | none
  /-- R_A to R_L: register-direct. -/
  | reg (r : Reg)
  /-- IND_HL, IND_BC, IND_DE: the memory byte at a pair. -/
  | ind (p : Pair)
  /-- ABS: the memory byte at K[15:0]. -/
  | abs
  /-- IMM: the literal K[7:0]. -/
  | imm
  /-- P_BC, P_DE, P_HL: the pair itself. -/
  | pair (p : Pair)
  /-- P_SP: the stack pointer. -/
  | sp
  /-- P_AF: the AF view. -/
  | af
  deriving DecidableEq, Repr

/-- The tagged value of one instruction word: family, X slot, Y slot, literal K (R100, R103). -/
structure Tagged where
  family : Family
  x : Selector
  y : Selector
  k : U16
  deriving DecidableEq, Repr

/-- Why a word is no instruction (R113). Every one of them raises the one fault InvariantViolation; the names tell a reader
which rule refused the word (log 11). -/
inductive Illegal
  /-- FAM is 0 or 17 to 63 (R102). -/
  | familyCode
  /-- A selector value 13 to 15 or 21 to 31 (R104). -/
  | selectorCode
  /-- A slot the family does not use is not NONE (R103). -/
  | unusedSlot
  /-- A selector of a kind the family does not take in that slot (R109). -/
  | operandKind
  /-- K[15:8] is not zero with an IMM selector (R106). -/
  | immediateHigh
  /-- K is not zero although neither slot is ABS or IMM (R108). -/
  | unusedLiteral
  deriving DecidableEq, Repr

/-- A register-direct selector. -/
def Selector.isReg : Selector → Bool
  | .reg _ => true
  | _ => false

/-- A pair-direct selector BC, DE or HL. -/
def Selector.isPair : Selector → Bool
  | .pair _ => true
  | _ => false

/-- A pair-indirect selector. -/
def Selector.isInd : Selector → Bool
  | .ind _ => true
  | _ => false

/-- The families that use the X slot (R103). -/
def Family.usesX : Family → Bool
  | .ldn | .ldrr | .ldfa | .pop | .inc => true
  | .lda | .push | .add | .adc | .sub | .sbc | .cp | .and | .or | .xor | .add16 => false

/-- The families that use the Y slot (R103). -/
def Family.usesY : Family → Bool
  | .ldn | .ldrr | .lda | .push | .add | .adc | .sub | .sbc | .cp | .and | .or | .xor | .add16 => true
  | .ldfa | .pop | .inc => false

/-- What each family takes in the X slot (R109). -/
def Family.admitsX : Family → Selector → Bool
  | .ldn, x => x.isReg || x.isPair
  | .ldrr, x => x.isReg || x == .ind .HL
  | .ldfa, x => x.isReg || x.isInd || x == .abs
  | .pop, x => x.isPair || x == .af
  | .inc, x => x.isReg || x == .pair .HL
  | .lda, x | .push, x | .add, x | .adc, x | .sub, x | .sbc, x | .cp, x | .and, x | .or, x | .xor, x | .add16, x =>
    x == .none

/-- What each family takes in the Y slot (R109). -/
def Family.admitsY : Family → Selector → Bool
  | .ldn, y => y == .imm
  | .ldrr, y => y.isReg || y == .ind .HL
  | .lda, y => y.isReg || y.isInd || y == .abs || y == .imm
  | .push, y => y.isPair || y == .af
  | .add, y | .adc, y | .sub, y | .sbc, y | .cp, y | .and, y | .or, y | .xor, y =>
    y.isReg || y == .ind .HL || y == .imm
  | .add16, y => y.isPair || y == .sp
  | .ldfa, y | .pop, y | .inc, y => y == .none

/-- The literal's rule (R106 to R108): any K with ABS, K[15:8] = 0 with IMM, else K = 0. -/
def Tagged.literalFault (t : Tagged) : Option Illegal :=
  if t.x = .abs ∨ t.y = .abs then none
  else if t.x = .imm ∨ t.y = .imm then
    if t.k.toNat < 256 then none else some .immediateHigh
  else if t.k = 0 then none
  else some .unusedLiteral

/-- Why a tagged value is no instruction, or `none` when it is one (R109, R113). -/
def Tagged.illegality (t : Tagged) : Option Illegal :=
  if !t.family.admitsX t.x then
    some (if t.family.usesX then .operandKind else .unusedSlot)
  else if !t.family.admitsY t.y then
    some (if t.family.usesY then .operandKind else .unusedSlot)
  else t.literalFault

/-- A tagged value that satisfies a row of R109. -/
def Tagged.wellFormed (t : Tagged) : Bool :=
  t.illegality == none

/-! ## The opcode table

spec/opcode_table.json as it stands: each row's mask and match (spec/30_encoding.md R109), a second account of the legal
words beside the checks above. -/

/-- One row: a word `w` selects it when `w & mask == match`. -/
structure OpcodeRow where
  mask : Di32
  pattern : Di32
  deriving DecidableEq, Repr

/-- `w & mask == match`. -/
def OpcodeRow.selects (row : OpcodeRow) (w : Di32) : Bool :=
  w &&& row.mask == row.pattern

def OpcodeTable.ldnRows : List OpcodeRow :=
  [⟨0xFFFFFF00#32, 0x042C0000#32⟩, ⟨0xFFFFFF00#32, 0x044C0000#32⟩, ⟨0xFFFFFF00#32, 0x046C0000#32⟩,
   ⟨0xFFFFFF00#32, 0x048C0000#32⟩, ⟨0xFFFFFF00#32, 0x04AC0000#32⟩, ⟨0xFFFFFF00#32, 0x04CC0000#32⟩,
   ⟨0xFFFFFF00#32, 0x04EC0000#32⟩, ⟨0xFFFFFF00#32, 0x060C0000#32⟩, ⟨0xFFFFFF00#32, 0x062C0000#32⟩,
   ⟨0xFFFFFF00#32, 0x064C0000#32⟩]

def OpcodeTable.ldrrRows1 : List OpcodeRow :=
  [⟨0xFFFFFFFF#32, 0x08210000#32⟩, ⟨0xFFFFFFFF#32, 0x08220000#32⟩, ⟨0xFFFFFFFF#32, 0x08230000#32⟩,
   ⟨0xFFFFFFFF#32, 0x08240000#32⟩, ⟨0xFFFFFFFF#32, 0x08250000#32⟩, ⟨0xFFFFFFFF#32, 0x08260000#32⟩,
   ⟨0xFFFFFFFF#32, 0x08270000#32⟩, ⟨0xFFFFFFFF#32, 0x08280000#32⟩, ⟨0xFFFFFFFF#32, 0x08410000#32⟩,
   ⟨0xFFFFFFFF#32, 0x08420000#32⟩, ⟨0xFFFFFFFF#32, 0x08430000#32⟩, ⟨0xFFFFFFFF#32, 0x08440000#32⟩,
   ⟨0xFFFFFFFF#32, 0x08450000#32⟩, ⟨0xFFFFFFFF#32, 0x08460000#32⟩, ⟨0xFFFFFFFF#32, 0x08470000#32⟩,
   ⟨0xFFFFFFFF#32, 0x08480000#32⟩, ⟨0xFFFFFFFF#32, 0x08610000#32⟩, ⟨0xFFFFFFFF#32, 0x08620000#32⟩,
   ⟨0xFFFFFFFF#32, 0x08630000#32⟩, ⟨0xFFFFFFFF#32, 0x08640000#32⟩, ⟨0xFFFFFFFF#32, 0x08650000#32⟩,
   ⟨0xFFFFFFFF#32, 0x08660000#32⟩, ⟨0xFFFFFFFF#32, 0x08670000#32⟩, ⟨0xFFFFFFFF#32, 0x08680000#32⟩,
   ⟨0xFFFFFFFF#32, 0x08810000#32⟩, ⟨0xFFFFFFFF#32, 0x08820000#32⟩, ⟨0xFFFFFFFF#32, 0x08830000#32⟩,
   ⟨0xFFFFFFFF#32, 0x08840000#32⟩, ⟨0xFFFFFFFF#32, 0x08850000#32⟩, ⟨0xFFFFFFFF#32, 0x08860000#32⟩,
   ⟨0xFFFFFFFF#32, 0x08870000#32⟩, ⟨0xFFFFFFFF#32, 0x08880000#32⟩, ⟨0xFFFFFFFF#32, 0x08A10000#32⟩,
   ⟨0xFFFFFFFF#32, 0x08A20000#32⟩, ⟨0xFFFFFFFF#32, 0x08A30000#32⟩, ⟨0xFFFFFFFF#32, 0x08A40000#32⟩,
   ⟨0xFFFFFFFF#32, 0x08A50000#32⟩, ⟨0xFFFFFFFF#32, 0x08A60000#32⟩, ⟨0xFFFFFFFF#32, 0x08A70000#32⟩,
   ⟨0xFFFFFFFF#32, 0x08A80000#32⟩]

def OpcodeTable.ldrrRows2 : List OpcodeRow :=
  [⟨0xFFFFFFFF#32, 0x08C10000#32⟩, ⟨0xFFFFFFFF#32, 0x08C20000#32⟩, ⟨0xFFFFFFFF#32, 0x08C30000#32⟩,
   ⟨0xFFFFFFFF#32, 0x08C40000#32⟩, ⟨0xFFFFFFFF#32, 0x08C50000#32⟩, ⟨0xFFFFFFFF#32, 0x08C60000#32⟩,
   ⟨0xFFFFFFFF#32, 0x08C70000#32⟩, ⟨0xFFFFFFFF#32, 0x08C80000#32⟩, ⟨0xFFFFFFFF#32, 0x08E10000#32⟩,
   ⟨0xFFFFFFFF#32, 0x08E20000#32⟩, ⟨0xFFFFFFFF#32, 0x08E30000#32⟩, ⟨0xFFFFFFFF#32, 0x08E40000#32⟩,
   ⟨0xFFFFFFFF#32, 0x08E50000#32⟩, ⟨0xFFFFFFFF#32, 0x08E60000#32⟩, ⟨0xFFFFFFFF#32, 0x08E70000#32⟩,
   ⟨0xFFFFFFFF#32, 0x08E80000#32⟩, ⟨0xFFFFFFFF#32, 0x09010000#32⟩, ⟨0xFFFFFFFF#32, 0x09020000#32⟩,
   ⟨0xFFFFFFFF#32, 0x09030000#32⟩, ⟨0xFFFFFFFF#32, 0x09040000#32⟩, ⟨0xFFFFFFFF#32, 0x09050000#32⟩,
   ⟨0xFFFFFFFF#32, 0x09060000#32⟩, ⟨0xFFFFFFFF#32, 0x09070000#32⟩, ⟨0xFFFFFFFF#32, 0x09080000#32⟩]

def OpcodeTable.ldaRows : List OpcodeRow :=
  [⟨0xFFFFFFFF#32, 0x0C010000#32⟩, ⟨0xFFFFFFFF#32, 0x0C020000#32⟩, ⟨0xFFFFFFFF#32, 0x0C030000#32⟩,
   ⟨0xFFFFFFFF#32, 0x0C040000#32⟩, ⟨0xFFFFFFFF#32, 0x0C050000#32⟩, ⟨0xFFFFFFFF#32, 0x0C060000#32⟩,
   ⟨0xFFFFFFFF#32, 0x0C070000#32⟩, ⟨0xFFFFFFFF#32, 0x0C090000#32⟩, ⟨0xFFFFFFFF#32, 0x0C0A0000#32⟩,
   ⟨0xFFFFFFFF#32, 0x0C080000#32⟩, ⟨0xFFFF0000#32, 0x0C0B0000#32⟩, ⟨0xFFFFFF00#32, 0x0C0C0000#32⟩]

def OpcodeTable.ldfaRows : List OpcodeRow :=
  [⟨0xFFFFFFFF#32, 0x10200000#32⟩, ⟨0xFFFFFFFF#32, 0x10400000#32⟩, ⟨0xFFFFFFFF#32, 0x10600000#32⟩,
   ⟨0xFFFFFFFF#32, 0x10800000#32⟩, ⟨0xFFFFFFFF#32, 0x10A00000#32⟩, ⟨0xFFFFFFFF#32, 0x10C00000#32⟩,
   ⟨0xFFFFFFFF#32, 0x10E00000#32⟩, ⟨0xFFFFFFFF#32, 0x11200000#32⟩, ⟨0xFFFFFFFF#32, 0x11400000#32⟩,
   ⟨0xFFFFFFFF#32, 0x11000000#32⟩, ⟨0xFFFF0000#32, 0x11600000#32⟩]

def OpcodeTable.pushRows : List OpcodeRow :=
  [⟨0xFFFFFFFF#32, 0x14100000#32⟩, ⟨0xFFFFFFFF#32, 0x14110000#32⟩, ⟨0xFFFFFFFF#32, 0x14120000#32⟩,
   ⟨0xFFFFFFFF#32, 0x14140000#32⟩]

def OpcodeTable.popRows : List OpcodeRow :=
  [⟨0xFFFFFFFF#32, 0x1A000000#32⟩, ⟨0xFFFFFFFF#32, 0x1A200000#32⟩, ⟨0xFFFFFFFF#32, 0x1A400000#32⟩,
   ⟨0xFFFFFFFF#32, 0x1A800000#32⟩]

def OpcodeTable.addRows : List OpcodeRow :=
  [⟨0xFFFFFFFF#32, 0x1C010000#32⟩, ⟨0xFFFFFFFF#32, 0x1C020000#32⟩, ⟨0xFFFFFFFF#32, 0x1C030000#32⟩,
   ⟨0xFFFFFFFF#32, 0x1C040000#32⟩, ⟨0xFFFFFFFF#32, 0x1C050000#32⟩, ⟨0xFFFFFFFF#32, 0x1C060000#32⟩,
   ⟨0xFFFFFFFF#32, 0x1C070000#32⟩, ⟨0xFFFFFFFF#32, 0x1C080000#32⟩, ⟨0xFFFFFF00#32, 0x1C0C0000#32⟩]

def OpcodeTable.adcRows : List OpcodeRow :=
  [⟨0xFFFFFFFF#32, 0x20010000#32⟩, ⟨0xFFFFFFFF#32, 0x20020000#32⟩, ⟨0xFFFFFFFF#32, 0x20030000#32⟩,
   ⟨0xFFFFFFFF#32, 0x20040000#32⟩, ⟨0xFFFFFFFF#32, 0x20050000#32⟩, ⟨0xFFFFFFFF#32, 0x20060000#32⟩,
   ⟨0xFFFFFFFF#32, 0x20070000#32⟩, ⟨0xFFFFFFFF#32, 0x20080000#32⟩, ⟨0xFFFFFF00#32, 0x200C0000#32⟩]

def OpcodeTable.subRows : List OpcodeRow :=
  [⟨0xFFFFFFFF#32, 0x24010000#32⟩, ⟨0xFFFFFFFF#32, 0x24020000#32⟩, ⟨0xFFFFFFFF#32, 0x24030000#32⟩,
   ⟨0xFFFFFFFF#32, 0x24040000#32⟩, ⟨0xFFFFFFFF#32, 0x24050000#32⟩, ⟨0xFFFFFFFF#32, 0x24060000#32⟩,
   ⟨0xFFFFFFFF#32, 0x24070000#32⟩, ⟨0xFFFFFFFF#32, 0x24080000#32⟩, ⟨0xFFFFFF00#32, 0x240C0000#32⟩]

def OpcodeTable.sbcRows : List OpcodeRow :=
  [⟨0xFFFFFFFF#32, 0x28010000#32⟩, ⟨0xFFFFFFFF#32, 0x28020000#32⟩, ⟨0xFFFFFFFF#32, 0x28030000#32⟩,
   ⟨0xFFFFFFFF#32, 0x28040000#32⟩, ⟨0xFFFFFFFF#32, 0x28050000#32⟩, ⟨0xFFFFFFFF#32, 0x28060000#32⟩,
   ⟨0xFFFFFFFF#32, 0x28070000#32⟩, ⟨0xFFFFFFFF#32, 0x28080000#32⟩, ⟨0xFFFFFF00#32, 0x280C0000#32⟩]

def OpcodeTable.cpRows : List OpcodeRow :=
  [⟨0xFFFFFFFF#32, 0x2C010000#32⟩, ⟨0xFFFFFFFF#32, 0x2C020000#32⟩, ⟨0xFFFFFFFF#32, 0x2C030000#32⟩,
   ⟨0xFFFFFFFF#32, 0x2C040000#32⟩, ⟨0xFFFFFFFF#32, 0x2C050000#32⟩, ⟨0xFFFFFFFF#32, 0x2C060000#32⟩,
   ⟨0xFFFFFFFF#32, 0x2C070000#32⟩, ⟨0xFFFFFFFF#32, 0x2C080000#32⟩, ⟨0xFFFFFF00#32, 0x2C0C0000#32⟩]

def OpcodeTable.incRows : List OpcodeRow :=
  [⟨0xFFFFFFFF#32, 0x30200000#32⟩, ⟨0xFFFFFFFF#32, 0x30400000#32⟩, ⟨0xFFFFFFFF#32, 0x30600000#32⟩,
   ⟨0xFFFFFFFF#32, 0x30800000#32⟩, ⟨0xFFFFFFFF#32, 0x30A00000#32⟩, ⟨0xFFFFFFFF#32, 0x30C00000#32⟩,
   ⟨0xFFFFFFFF#32, 0x30E00000#32⟩, ⟨0xFFFFFFFF#32, 0x32400000#32⟩]

def OpcodeTable.andRows : List OpcodeRow :=
  [⟨0xFFFFFFFF#32, 0x34010000#32⟩, ⟨0xFFFFFFFF#32, 0x34020000#32⟩, ⟨0xFFFFFFFF#32, 0x34030000#32⟩,
   ⟨0xFFFFFFFF#32, 0x34040000#32⟩, ⟨0xFFFFFFFF#32, 0x34050000#32⟩, ⟨0xFFFFFFFF#32, 0x34060000#32⟩,
   ⟨0xFFFFFFFF#32, 0x34070000#32⟩, ⟨0xFFFFFFFF#32, 0x34080000#32⟩, ⟨0xFFFFFF00#32, 0x340C0000#32⟩]

def OpcodeTable.orRows : List OpcodeRow :=
  [⟨0xFFFFFFFF#32, 0x38010000#32⟩, ⟨0xFFFFFFFF#32, 0x38020000#32⟩, ⟨0xFFFFFFFF#32, 0x38030000#32⟩,
   ⟨0xFFFFFFFF#32, 0x38040000#32⟩, ⟨0xFFFFFFFF#32, 0x38050000#32⟩, ⟨0xFFFFFFFF#32, 0x38060000#32⟩,
   ⟨0xFFFFFFFF#32, 0x38070000#32⟩, ⟨0xFFFFFFFF#32, 0x38080000#32⟩, ⟨0xFFFFFF00#32, 0x380C0000#32⟩]

def OpcodeTable.xorRows : List OpcodeRow :=
  [⟨0xFFFFFFFF#32, 0x3C010000#32⟩, ⟨0xFFFFFFFF#32, 0x3C020000#32⟩, ⟨0xFFFFFFFF#32, 0x3C030000#32⟩,
   ⟨0xFFFFFFFF#32, 0x3C040000#32⟩, ⟨0xFFFFFFFF#32, 0x3C050000#32⟩, ⟨0xFFFFFFFF#32, 0x3C060000#32⟩,
   ⟨0xFFFFFFFF#32, 0x3C070000#32⟩, ⟨0xFFFFFFFF#32, 0x3C080000#32⟩, ⟨0xFFFFFF00#32, 0x3C0C0000#32⟩]

def OpcodeTable.add16Rows : List OpcodeRow :=
  [⟨0xFFFFFFFF#32, 0x40100000#32⟩, ⟨0xFFFFFFFF#32, 0x40110000#32⟩, ⟨0xFFFFFFFF#32, 0x40120000#32⟩,
   ⟨0xFFFFFFFF#32, 0x40130000#32⟩]

/-- The 189 rows. -/
def opcodeTable : List OpcodeRow :=
  OpcodeTable.ldnRows ++ OpcodeTable.ldrrRows1 ++ OpcodeTable.ldrrRows2 ++ OpcodeTable.ldaRows ++ OpcodeTable.ldfaRows ++ OpcodeTable.pushRows ++ OpcodeTable.popRows ++ OpcodeTable.addRows ++ OpcodeTable.adcRows ++ OpcodeTable.subRows ++ OpcodeTable.sbcRows ++ OpcodeTable.cpRows ++ OpcodeTable.incRows ++ OpcodeTable.andRows ++ OpcodeTable.orRows ++ OpcodeTable.xorRows ++ OpcodeTable.add16Rows

end Sys2Proof
end

