-- ==== Sys2Proof/Decode.lean ====
section
/-! DEFINITION. The decoder of DI32 words, total on all of them and refusing by name (spec/30_encoding.md R100 to R113), and
after it the encoder, written from the same tables. A word is presented whole on the instruction port and has no byte order
(R101). -/

namespace Sys2Proof

/-! ## The fields of a word (R100) -/

/-- FAM, bits 31 to 26. -/
def famField (w : Di32) : BitVec 6 := w.extractLsb' 26 6

/-- X, bits 25 to 21. -/
def xField (w : Di32) : BitVec 5 := w.extractLsb' 21 5

/-- Y, bits 20 to 16. -/
def yField (w : Di32) : BitVec 5 := w.extractLsb' 16 5

/-- K, bits 15 to 0. -/
def kField (w : Di32) : U16 := w.extractLsb' 0 16

/-! ## The code tables -/

/-- The family of a FAM code (R102). -/
def Family.ofCode (c : BitVec 6) : Option Family :=
  match c.toNat with
  | 1 => some .ldn
  | 2 => some .ldrr
  | 3 => some .lda
  | 4 => some .ldfa
  | 5 => some .push
  | 6 => some .pop
  | 7 => some .add
  | 8 => some .adc
  | 9 => some .sub
  | 10 => some .sbc
  | 11 => some .cp
  | 12 => some .inc
  | 13 => some .and
  | 14 => some .or
  | 15 => some .xor
  | 16 => some .add16
  | _ => none

/-- The operand of a selector code (R104). -/
def Selector.ofCode (c : BitVec 5) : Option Selector :=
  match c.toNat with
  | 0 => some .none
  | 1 => some (.reg .A)
  | 2 => some (.reg .B)
  | 3 => some (.reg .C)
  | 4 => some (.reg .D)
  | 5 => some (.reg .E)
  | 6 => some (.reg .H)
  | 7 => some (.reg .L)
  | 8 => some (.ind .HL)
  | 9 => some (.ind .BC)
  | 10 => some (.ind .DE)
  | 11 => some .abs
  | 12 => some .imm
  | 16 => some (.pair .BC)
  | 17 => some (.pair .DE)
  | 18 => some (.pair .HL)
  | 19 => some .sp
  | 20 => some .af
  | _ => Option.none

/-! ## The instruction of each form (R109) -/

/-- `LDN(r, #n)` (R131). -/
def Instr.ldnReg : Reg → U8 → Instr
  | .A, n => .ldnA n
  | .B, n => .ldnB n
  | .C, n => .ldnC n
  | .D, n => .ldnD n
  | .E, n => .ldnE n
  | .H, n => .ldnH n
  | .L, n => .ldnL n

/-- `LDN(p, #n)` (R132). -/
def Instr.ldnPair : Pair → U8 → Instr
  | .BC, n => .ldnPairBC n
  | .DE, n => .ldnPairDE n
  | .HL, n => .ldnPairHL n

/-- `LDRR(to, from)` of two registers (R135). -/
def Instr.ldrrRegReg : Reg → Reg → Instr
  | .A, .A => .ldrrAFromA
  | .A, .B => .ldrrAFromB
  | .A, .C => .ldrrAFromC
  | .A, .D => .ldrrAFromD
  | .A, .E => .ldrrAFromE
  | .A, .H => .ldrrAFromH
  | .A, .L => .ldrrAFromL
  | .B, .A => .ldrrBFromA
  | .B, .B => .ldrrBFromB
  | .B, .C => .ldrrBFromC
  | .B, .D => .ldrrBFromD
  | .B, .E => .ldrrBFromE
  | .B, .H => .ldrrBFromH
  | .B, .L => .ldrrBFromL
  | .C, .A => .ldrrCFromA
  | .C, .B => .ldrrCFromB
  | .C, .C => .ldrrCFromC
  | .C, .D => .ldrrCFromD
  | .C, .E => .ldrrCFromE
  | .C, .H => .ldrrCFromH
  | .C, .L => .ldrrCFromL
  | .D, .A => .ldrrDFromA
  | .D, .B => .ldrrDFromB
  | .D, .C => .ldrrDFromC
  | .D, .D => .ldrrDFromD
  | .D, .E => .ldrrDFromE
  | .D, .H => .ldrrDFromH
  | .D, .L => .ldrrDFromL
  | .E, .A => .ldrrEFromA
  | .E, .B => .ldrrEFromB
  | .E, .C => .ldrrEFromC
  | .E, .D => .ldrrEFromD
  | .E, .E => .ldrrEFromE
  | .E, .H => .ldrrEFromH
  | .E, .L => .ldrrEFromL
  | .H, .A => .ldrrHFromA
  | .H, .B => .ldrrHFromB
  | .H, .C => .ldrrHFromC
  | .H, .D => .ldrrHFromD
  | .H, .E => .ldrrHFromE
  | .H, .H => .ldrrHFromH
  | .H, .L => .ldrrHFromL
  | .L, .A => .ldrrLFromA
  | .L, .B => .ldrrLFromB
  | .L, .C => .ldrrLFromC
  | .L, .D => .ldrrLFromD
  | .L, .E => .ldrrLFromE
  | .L, .H => .ldrrLFromH
  | .L, .L => .ldrrLFromL

/-- `LDRR(r, (HL))` (R136). -/
def Instr.ldrrRegMem : Reg → Instr
  | .A => .ldrrAFromMemHL
  | .B => .ldrrBFromMemHL
  | .C => .ldrrCFromMemHL
  | .D => .ldrrDFromMemHL
  | .E => .ldrrEFromMemHL
  | .H => .ldrrHFromMemHL
  | .L => .ldrrLFromMemHL

/-- `LDRR((HL), r)` (R137). -/
def Instr.ldrrMemReg : Reg → Instr
  | .A => .ldrrMemHLFromA
  | .B => .ldrrMemHLFromB
  | .C => .ldrrMemHLFromC
  | .D => .ldrrMemHLFromD
  | .E => .ldrrMemHLFromE
  | .H => .ldrrMemHLFromH
  | .L => .ldrrMemHLFromL

/-- `LDA(r)` (R141). -/
def Instr.ldaReg : Reg → Instr
  | .A => .ldaFromA
  | .B => .ldaFromB
  | .C => .ldaFromC
  | .D => .ldaFromD
  | .E => .ldaFromE
  | .H => .ldaFromH
  | .L => .ldaFromL

/-- `LDA((p))` (R142). -/
def Instr.ldaInd : Pair → Instr
  | .BC => .ldaFromMemBC
  | .DE => .ldaFromMemDE
  | .HL => .ldaFromMemHL

/-- `LDFA(r)` (R146). -/
def Instr.ldfaReg : Reg → Instr
  | .A => .ldfaToA
  | .B => .ldfaToB
  | .C => .ldfaToC
  | .D => .ldfaToD
  | .E => .ldfaToE
  | .H => .ldfaToH
  | .L => .ldfaToL

/-- `LDFA((p))` (R147). -/
def Instr.ldfaInd : Pair → Instr
  | .BC => .ldfaToMemBC
  | .DE => .ldfaToMemDE
  | .HL => .ldfaToMemHL

/-- `PUSH(p)` of BC, DE or HL (R171). -/
def Instr.pushPair : Pair → Instr
  | .BC => .pushBC
  | .DE => .pushDE
  | .HL => .pushHL

/-- `POP(p)` of BC, DE or HL (R173). -/
def Instr.popPair : Pair → Instr
  | .BC => .popBC
  | .DE => .popDE
  | .HL => .popHL

/-- `ADD(r)` (R184). -/
def Instr.addReg : Reg → Instr
  | .A => .addA
  | .B => .addB
  | .C => .addC
  | .D => .addD
  | .E => .addE
  | .H => .addH
  | .L => .addL

/-- `ADC(r)` (R188). -/
def Instr.adcReg : Reg → Instr
  | .A => .adcA
  | .B => .adcB
  | .C => .adcC
  | .D => .adcD
  | .E => .adcE
  | .H => .adcH
  | .L => .adcL

/-- `SUB(r)` (R192). -/
def Instr.subReg : Reg → Instr
  | .A => .subA
  | .B => .subB
  | .C => .subC
  | .D => .subD
  | .E => .subE
  | .H => .subH
  | .L => .subL

/-- `SBC(r)` (R196). -/
def Instr.sbcReg : Reg → Instr
  | .A => .sbcA
  | .B => .sbcB
  | .C => .sbcC
  | .D => .sbcD
  | .E => .sbcE
  | .H => .sbcH
  | .L => .sbcL

/-- `CP(r)` (R200). -/
def Instr.cpReg : Reg → Instr
  | .A => .cpA
  | .B => .cpB
  | .C => .cpC
  | .D => .cpD
  | .E => .cpE
  | .H => .cpH
  | .L => .cpL

/-- `AND(r)` (R232). -/
def Instr.andReg : Reg → Instr
  | .A => .andA
  | .B => .andB
  | .C => .andC
  | .D => .andD
  | .E => .andE
  | .H => .andH
  | .L => .andL

/-- `OR(r)` (R236). -/
def Instr.orReg : Reg → Instr
  | .A => .orA
  | .B => .orB
  | .C => .orC
  | .D => .orD
  | .E => .orE
  | .H => .orH
  | .L => .orL

/-- `XOR(r)` (R240). -/
def Instr.xorReg : Reg → Instr
  | .A => .xorA
  | .B => .xorB
  | .C => .xorC
  | .D => .xorD
  | .E => .xorE
  | .H => .xorH
  | .L => .xorL

/-- `INC(r)` (R221). -/
def Instr.incReg : Reg → Instr
  | .A => .incA
  | .B => .incB
  | .C => .incC
  | .D => .incD
  | .E => .incE
  | .H => .incH
  | .L => .incL

/-- `ADD16(p)` of BC, DE or HL (R251). -/
def Instr.add16Pair : Pair → Instr
  | .BC => .add16BC
  | .DE => .add16DE
  | .HL => .add16HL

/-- The instruction of a tagged value, one line per row of R109; `none` where no row has these slots. -/
def Tagged.instr (t : Tagged) : Option Instr :=
  let n : U8 := t.k.extractLsb' 0 8
  match t.family, t.x, t.y with
  | .ldn, .reg r, .imm => some (.ldnReg r n)
  | .ldn, .pair p, .imm => some (.ldnPair p n)
  | .ldrr, .reg r, .reg r' => some (.ldrrRegReg r r')
  | .ldrr, .reg r, .ind .HL => some (.ldrrRegMem r)
  | .ldrr, .ind .HL, .reg r => some (.ldrrMemReg r)
  | .ldrr, .ind .HL, .ind .HL => some .ldrrMemHLFromMemHL
  | .lda, .none, .reg r => some (.ldaReg r)
  | .lda, .none, .ind p => some (.ldaInd p)
  | .lda, .none, .abs => some (.ldaFromAbs t.k)
  | .lda, .none, .imm => some (.ldaFromImm n)
  | .ldfa, .reg r, .none => some (.ldfaReg r)
  | .ldfa, .ind p, .none => some (.ldfaInd p)
  | .ldfa, .abs, .none => some (.ldfaToAbs t.k)
  | .push, .none, .pair p => some (.pushPair p)
  | .push, .none, .af => some .pushAF
  | .pop, .pair p, .none => some (.popPair p)
  | .pop, .af, .none => some .popAF
  | .add, .none, .reg r => some (.addReg r)
  | .add, .none, .ind .HL => some .addMemHL
  | .add, .none, .imm => some (.addImm n)
  | .adc, .none, .reg r => some (.adcReg r)
  | .adc, .none, .ind .HL => some .adcMemHL
  | .adc, .none, .imm => some (.adcImm n)
  | .sub, .none, .reg r => some (.subReg r)
  | .sub, .none, .ind .HL => some .subMemHL
  | .sub, .none, .imm => some (.subImm n)
  | .sbc, .none, .reg r => some (.sbcReg r)
  | .sbc, .none, .ind .HL => some .sbcMemHL
  | .sbc, .none, .imm => some (.sbcImm n)
  | .cp, .none, .reg r => some (.cpReg r)
  | .cp, .none, .ind .HL => some .cpMemHL
  | .cp, .none, .imm => some (.cpImm n)
  | .and, .none, .reg r => some (.andReg r)
  | .and, .none, .ind .HL => some .andMemHL
  | .and, .none, .imm => some (.andImm n)
  | .or, .none, .reg r => some (.orReg r)
  | .or, .none, .ind .HL => some .orMemHL
  | .or, .none, .imm => some (.orImm n)
  | .xor, .none, .reg r => some (.xorReg r)
  | .xor, .none, .ind .HL => some .xorMemHL
  | .xor, .none, .imm => some (.xorImm n)
  | .inc, .reg r, .none => some (.incReg r)
  | .inc, .pair .HL, .none => some .incPairHL
  | .add16, .none, .pair p => some (.add16Pair p)
  | .add16, .none, .sp => some .add16SP
  | _, _, _ => none

/-! ## Decode -/

/-- `Decode(w)` (R110): the instruction of a word, or why the word is none (R113). -/
def decode (w : Di32) : Except Illegal Instr :=
  match Family.ofCode (famField w) with
  | none => .error .familyCode
  | some family =>
    match Selector.ofCode (xField w), Selector.ofCode (yField w) with
    | some x, some y =>
      let t : Tagged := { family := family, x := x, y := y, k := kField w }
      match t.illegality with
      | some why => .error why
      | none =>
        match t.instr with
        | some i => .ok i
        | none => .error .operandKind
    | _, _ => .error .selectorCode

/-- The decoder on a table word: an instruction's `nbits` bits as a number, the bits above them zero. Every row of the table
is one whole DI32 word, numbered as R100 numbers it (log 12). -/
def decodeTableWord (nbits w : Nat) : Option Instr :=
  match decode (BitVec.ofNat 32 (w % 2 ^ nbits)) with
  | .ok i => some i
  | .error _ => none

/-! ## Encode -/

/-- The FAM code of a family (R102). -/
def Family.code : Family → BitVec 6
  | .ldn => 0x01
  | .ldrr => 0x02
  | .lda => 0x03
  | .ldfa => 0x04
  | .push => 0x05
  | .pop => 0x06
  | .add => 0x07
  | .adc => 0x08
  | .sub => 0x09
  | .sbc => 0x0A
  | .cp => 0x0B
  | .inc => 0x0C
  | .and => 0x0D
  | .or => 0x0E
  | .xor => 0x0F
  | .add16 => 0x10

/-- The code of a register-direct selector, R_A to R_L (R104). -/
def regCode : Reg → BitVec 5
  | .A => 0x01
  | .B => 0x02
  | .C => 0x03
  | .D => 0x04
  | .E => 0x05
  | .H => 0x06
  | .L => 0x07

/-- The code of a pair-indirect selector (R104). -/
def indCode : Pair → BitVec 5
  | .HL => 0x08
  | .BC => 0x09
  | .DE => 0x0A

/-- The code of a pair-direct selector (R104). -/
def pairCode : Pair → BitVec 5
  | .BC => 0x10
  | .DE => 0x11
  | .HL => 0x12

/-- The code of a selector (R104). -/
def Selector.code : Selector → BitVec 5
  | .none => 0x00
  | .reg r => regCode r
  | .ind p => indCode p
  | .abs => 0x0B
  | .imm => 0x0C
  | .pair p => pairCode p
  | .sp => 0x13
  | .af => 0x14

/-- The word of four fields (R100). -/
def Tagged.word (t : Tagged) : Di32 :=
  t.family.code ++ t.x.code ++ t.y.code ++ t.k

/-- The tags of an instruction: its family, its two slots and its literal (R103, R109), unused slots NONE and unused K bits
zero (R110). -/
def Instr.tagged : Instr → Tagged
  | .ldnA n => ⟨.ldn, .reg .A, .imm, 0#8 ++ n⟩
  | .ldnB n => ⟨.ldn, .reg .B, .imm, 0#8 ++ n⟩
  | .ldnC n => ⟨.ldn, .reg .C, .imm, 0#8 ++ n⟩
  | .ldnD n => ⟨.ldn, .reg .D, .imm, 0#8 ++ n⟩
  | .ldnE n => ⟨.ldn, .reg .E, .imm, 0#8 ++ n⟩
  | .ldnH n => ⟨.ldn, .reg .H, .imm, 0#8 ++ n⟩
  | .ldnL n => ⟨.ldn, .reg .L, .imm, 0#8 ++ n⟩
  | .ldnPairBC n => ⟨.ldn, .pair .BC, .imm, 0#8 ++ n⟩
  | .ldnPairDE n => ⟨.ldn, .pair .DE, .imm, 0#8 ++ n⟩
  | .ldnPairHL n => ⟨.ldn, .pair .HL, .imm, 0#8 ++ n⟩
  | .ldrrAFromA => ⟨.ldrr, .reg .A, .reg .A, 0⟩
  | .ldrrAFromB => ⟨.ldrr, .reg .A, .reg .B, 0⟩
  | .ldrrAFromC => ⟨.ldrr, .reg .A, .reg .C, 0⟩
  | .ldrrAFromD => ⟨.ldrr, .reg .A, .reg .D, 0⟩
  | .ldrrAFromE => ⟨.ldrr, .reg .A, .reg .E, 0⟩
  | .ldrrAFromH => ⟨.ldrr, .reg .A, .reg .H, 0⟩
  | .ldrrAFromL => ⟨.ldrr, .reg .A, .reg .L, 0⟩
  | .ldrrAFromMemHL => ⟨.ldrr, .reg .A, .ind .HL, 0⟩
  | .ldrrBFromA => ⟨.ldrr, .reg .B, .reg .A, 0⟩
  | .ldrrBFromB => ⟨.ldrr, .reg .B, .reg .B, 0⟩
  | .ldrrBFromC => ⟨.ldrr, .reg .B, .reg .C, 0⟩
  | .ldrrBFromD => ⟨.ldrr, .reg .B, .reg .D, 0⟩
  | .ldrrBFromE => ⟨.ldrr, .reg .B, .reg .E, 0⟩
  | .ldrrBFromH => ⟨.ldrr, .reg .B, .reg .H, 0⟩
  | .ldrrBFromL => ⟨.ldrr, .reg .B, .reg .L, 0⟩
  | .ldrrBFromMemHL => ⟨.ldrr, .reg .B, .ind .HL, 0⟩
  | .ldrrCFromA => ⟨.ldrr, .reg .C, .reg .A, 0⟩
  | .ldrrCFromB => ⟨.ldrr, .reg .C, .reg .B, 0⟩
  | .ldrrCFromC => ⟨.ldrr, .reg .C, .reg .C, 0⟩
  | .ldrrCFromD => ⟨.ldrr, .reg .C, .reg .D, 0⟩
  | .ldrrCFromE => ⟨.ldrr, .reg .C, .reg .E, 0⟩
  | .ldrrCFromH => ⟨.ldrr, .reg .C, .reg .H, 0⟩
  | .ldrrCFromL => ⟨.ldrr, .reg .C, .reg .L, 0⟩
  | .ldrrCFromMemHL => ⟨.ldrr, .reg .C, .ind .HL, 0⟩
  | .ldrrDFromA => ⟨.ldrr, .reg .D, .reg .A, 0⟩
  | .ldrrDFromB => ⟨.ldrr, .reg .D, .reg .B, 0⟩
  | .ldrrDFromC => ⟨.ldrr, .reg .D, .reg .C, 0⟩
  | .ldrrDFromD => ⟨.ldrr, .reg .D, .reg .D, 0⟩
  | .ldrrDFromE => ⟨.ldrr, .reg .D, .reg .E, 0⟩
  | .ldrrDFromH => ⟨.ldrr, .reg .D, .reg .H, 0⟩
  | .ldrrDFromL => ⟨.ldrr, .reg .D, .reg .L, 0⟩
  | .ldrrDFromMemHL => ⟨.ldrr, .reg .D, .ind .HL, 0⟩
  | .ldrrEFromA => ⟨.ldrr, .reg .E, .reg .A, 0⟩
  | .ldrrEFromB => ⟨.ldrr, .reg .E, .reg .B, 0⟩
  | .ldrrEFromC => ⟨.ldrr, .reg .E, .reg .C, 0⟩
  | .ldrrEFromD => ⟨.ldrr, .reg .E, .reg .D, 0⟩
  | .ldrrEFromE => ⟨.ldrr, .reg .E, .reg .E, 0⟩
  | .ldrrEFromH => ⟨.ldrr, .reg .E, .reg .H, 0⟩
  | .ldrrEFromL => ⟨.ldrr, .reg .E, .reg .L, 0⟩
  | .ldrrEFromMemHL => ⟨.ldrr, .reg .E, .ind .HL, 0⟩
  | .ldrrHFromA => ⟨.ldrr, .reg .H, .reg .A, 0⟩
  | .ldrrHFromB => ⟨.ldrr, .reg .H, .reg .B, 0⟩
  | .ldrrHFromC => ⟨.ldrr, .reg .H, .reg .C, 0⟩
  | .ldrrHFromD => ⟨.ldrr, .reg .H, .reg .D, 0⟩
  | .ldrrHFromE => ⟨.ldrr, .reg .H, .reg .E, 0⟩
  | .ldrrHFromH => ⟨.ldrr, .reg .H, .reg .H, 0⟩
  | .ldrrHFromL => ⟨.ldrr, .reg .H, .reg .L, 0⟩
  | .ldrrHFromMemHL => ⟨.ldrr, .reg .H, .ind .HL, 0⟩
  | .ldrrLFromA => ⟨.ldrr, .reg .L, .reg .A, 0⟩
  | .ldrrLFromB => ⟨.ldrr, .reg .L, .reg .B, 0⟩
  | .ldrrLFromC => ⟨.ldrr, .reg .L, .reg .C, 0⟩
  | .ldrrLFromD => ⟨.ldrr, .reg .L, .reg .D, 0⟩
  | .ldrrLFromE => ⟨.ldrr, .reg .L, .reg .E, 0⟩
  | .ldrrLFromH => ⟨.ldrr, .reg .L, .reg .H, 0⟩
  | .ldrrLFromL => ⟨.ldrr, .reg .L, .reg .L, 0⟩
  | .ldrrLFromMemHL => ⟨.ldrr, .reg .L, .ind .HL, 0⟩
  | .ldrrMemHLFromA => ⟨.ldrr, .ind .HL, .reg .A, 0⟩
  | .ldrrMemHLFromB => ⟨.ldrr, .ind .HL, .reg .B, 0⟩
  | .ldrrMemHLFromC => ⟨.ldrr, .ind .HL, .reg .C, 0⟩
  | .ldrrMemHLFromD => ⟨.ldrr, .ind .HL, .reg .D, 0⟩
  | .ldrrMemHLFromE => ⟨.ldrr, .ind .HL, .reg .E, 0⟩
  | .ldrrMemHLFromH => ⟨.ldrr, .ind .HL, .reg .H, 0⟩
  | .ldrrMemHLFromL => ⟨.ldrr, .ind .HL, .reg .L, 0⟩
  | .ldrrMemHLFromMemHL => ⟨.ldrr, .ind .HL, .ind .HL, 0⟩
  | .ldaFromA => ⟨.lda, .none, .reg .A, 0⟩
  | .ldaFromB => ⟨.lda, .none, .reg .B, 0⟩
  | .ldaFromC => ⟨.lda, .none, .reg .C, 0⟩
  | .ldaFromD => ⟨.lda, .none, .reg .D, 0⟩
  | .ldaFromE => ⟨.lda, .none, .reg .E, 0⟩
  | .ldaFromH => ⟨.lda, .none, .reg .H, 0⟩
  | .ldaFromL => ⟨.lda, .none, .reg .L, 0⟩
  | .ldaFromMemBC => ⟨.lda, .none, .ind .BC, 0⟩
  | .ldaFromMemDE => ⟨.lda, .none, .ind .DE, 0⟩
  | .ldaFromMemHL => ⟨.lda, .none, .ind .HL, 0⟩
  | .ldaFromAbs nn => ⟨.lda, .none, .abs, nn⟩
  | .ldaFromImm n => ⟨.lda, .none, .imm, 0#8 ++ n⟩
  | .ldfaToA => ⟨.ldfa, .reg .A, .none, 0⟩
  | .ldfaToB => ⟨.ldfa, .reg .B, .none, 0⟩
  | .ldfaToC => ⟨.ldfa, .reg .C, .none, 0⟩
  | .ldfaToD => ⟨.ldfa, .reg .D, .none, 0⟩
  | .ldfaToE => ⟨.ldfa, .reg .E, .none, 0⟩
  | .ldfaToH => ⟨.ldfa, .reg .H, .none, 0⟩
  | .ldfaToL => ⟨.ldfa, .reg .L, .none, 0⟩
  | .ldfaToMemBC => ⟨.ldfa, .ind .BC, .none, 0⟩
  | .ldfaToMemDE => ⟨.ldfa, .ind .DE, .none, 0⟩
  | .ldfaToMemHL => ⟨.ldfa, .ind .HL, .none, 0⟩
  | .ldfaToAbs nn => ⟨.ldfa, .abs, .none, nn⟩
  | .pushBC => ⟨.push, .none, .pair .BC, 0⟩
  | .pushDE => ⟨.push, .none, .pair .DE, 0⟩
  | .pushHL => ⟨.push, .none, .pair .HL, 0⟩
  | .pushAF => ⟨.push, .none, .af, 0⟩
  | .popBC => ⟨.pop, .pair .BC, .none, 0⟩
  | .popDE => ⟨.pop, .pair .DE, .none, 0⟩
  | .popHL => ⟨.pop, .pair .HL, .none, 0⟩
  | .popAF => ⟨.pop, .af, .none, 0⟩
  | .addA => ⟨.add, .none, .reg .A, 0⟩
  | .addB => ⟨.add, .none, .reg .B, 0⟩
  | .addC => ⟨.add, .none, .reg .C, 0⟩
  | .addD => ⟨.add, .none, .reg .D, 0⟩
  | .addE => ⟨.add, .none, .reg .E, 0⟩
  | .addH => ⟨.add, .none, .reg .H, 0⟩
  | .addL => ⟨.add, .none, .reg .L, 0⟩
  | .addMemHL => ⟨.add, .none, .ind .HL, 0⟩
  | .addImm n => ⟨.add, .none, .imm, 0#8 ++ n⟩
  | .adcA => ⟨.adc, .none, .reg .A, 0⟩
  | .adcB => ⟨.adc, .none, .reg .B, 0⟩
  | .adcC => ⟨.adc, .none, .reg .C, 0⟩
  | .adcD => ⟨.adc, .none, .reg .D, 0⟩
  | .adcE => ⟨.adc, .none, .reg .E, 0⟩
  | .adcH => ⟨.adc, .none, .reg .H, 0⟩
  | .adcL => ⟨.adc, .none, .reg .L, 0⟩
  | .adcMemHL => ⟨.adc, .none, .ind .HL, 0⟩
  | .adcImm n => ⟨.adc, .none, .imm, 0#8 ++ n⟩
  | .subA => ⟨.sub, .none, .reg .A, 0⟩
  | .subB => ⟨.sub, .none, .reg .B, 0⟩
  | .subC => ⟨.sub, .none, .reg .C, 0⟩
  | .subD => ⟨.sub, .none, .reg .D, 0⟩
  | .subE => ⟨.sub, .none, .reg .E, 0⟩
  | .subH => ⟨.sub, .none, .reg .H, 0⟩
  | .subL => ⟨.sub, .none, .reg .L, 0⟩
  | .subMemHL => ⟨.sub, .none, .ind .HL, 0⟩
  | .subImm n => ⟨.sub, .none, .imm, 0#8 ++ n⟩
  | .sbcA => ⟨.sbc, .none, .reg .A, 0⟩
  | .sbcB => ⟨.sbc, .none, .reg .B, 0⟩
  | .sbcC => ⟨.sbc, .none, .reg .C, 0⟩
  | .sbcD => ⟨.sbc, .none, .reg .D, 0⟩
  | .sbcE => ⟨.sbc, .none, .reg .E, 0⟩
  | .sbcH => ⟨.sbc, .none, .reg .H, 0⟩
  | .sbcL => ⟨.sbc, .none, .reg .L, 0⟩
  | .sbcMemHL => ⟨.sbc, .none, .ind .HL, 0⟩
  | .sbcImm n => ⟨.sbc, .none, .imm, 0#8 ++ n⟩
  | .cpA => ⟨.cp, .none, .reg .A, 0⟩
  | .cpB => ⟨.cp, .none, .reg .B, 0⟩
  | .cpC => ⟨.cp, .none, .reg .C, 0⟩
  | .cpD => ⟨.cp, .none, .reg .D, 0⟩
  | .cpE => ⟨.cp, .none, .reg .E, 0⟩
  | .cpH => ⟨.cp, .none, .reg .H, 0⟩
  | .cpL => ⟨.cp, .none, .reg .L, 0⟩
  | .cpMemHL => ⟨.cp, .none, .ind .HL, 0⟩
  | .cpImm n => ⟨.cp, .none, .imm, 0#8 ++ n⟩
  | .incA => ⟨.inc, .reg .A, .none, 0⟩
  | .incB => ⟨.inc, .reg .B, .none, 0⟩
  | .incC => ⟨.inc, .reg .C, .none, 0⟩
  | .incD => ⟨.inc, .reg .D, .none, 0⟩
  | .incE => ⟨.inc, .reg .E, .none, 0⟩
  | .incH => ⟨.inc, .reg .H, .none, 0⟩
  | .incL => ⟨.inc, .reg .L, .none, 0⟩
  | .incPairHL => ⟨.inc, .pair .HL, .none, 0⟩
  | .andA => ⟨.and, .none, .reg .A, 0⟩
  | .andB => ⟨.and, .none, .reg .B, 0⟩
  | .andC => ⟨.and, .none, .reg .C, 0⟩
  | .andD => ⟨.and, .none, .reg .D, 0⟩
  | .andE => ⟨.and, .none, .reg .E, 0⟩
  | .andH => ⟨.and, .none, .reg .H, 0⟩
  | .andL => ⟨.and, .none, .reg .L, 0⟩
  | .andMemHL => ⟨.and, .none, .ind .HL, 0⟩
  | .andImm n => ⟨.and, .none, .imm, 0#8 ++ n⟩
  | .orA => ⟨.or, .none, .reg .A, 0⟩
  | .orB => ⟨.or, .none, .reg .B, 0⟩
  | .orC => ⟨.or, .none, .reg .C, 0⟩
  | .orD => ⟨.or, .none, .reg .D, 0⟩
  | .orE => ⟨.or, .none, .reg .E, 0⟩
  | .orH => ⟨.or, .none, .reg .H, 0⟩
  | .orL => ⟨.or, .none, .reg .L, 0⟩
  | .orMemHL => ⟨.or, .none, .ind .HL, 0⟩
  | .orImm n => ⟨.or, .none, .imm, 0#8 ++ n⟩
  | .xorA => ⟨.xor, .none, .reg .A, 0⟩
  | .xorB => ⟨.xor, .none, .reg .B, 0⟩
  | .xorC => ⟨.xor, .none, .reg .C, 0⟩
  | .xorD => ⟨.xor, .none, .reg .D, 0⟩
  | .xorE => ⟨.xor, .none, .reg .E, 0⟩
  | .xorH => ⟨.xor, .none, .reg .H, 0⟩
  | .xorL => ⟨.xor, .none, .reg .L, 0⟩
  | .xorMemHL => ⟨.xor, .none, .ind .HL, 0⟩
  | .xorImm n => ⟨.xor, .none, .imm, 0#8 ++ n⟩
  | .add16BC => ⟨.add16, .none, .pair .BC, 0⟩
  | .add16DE => ⟨.add16, .none, .pair .DE, 0⟩
  | .add16HL => ⟨.add16, .none, .pair .HL, 0⟩
  | .add16SP => ⟨.add16, .none, .sp, 0⟩

/-- `Encode(i)` (R110). -/
def encode (i : Instr) : Di32 :=
  i.tagged.word

/-- An instruction whose tags satisfy a row of R109; an `Instr` cannot be built otherwise (log 17). -/
def Instr.wellFormed (i : Instr) : Bool :=
  i.tagged.wellFormed

end Sys2Proof
end

