-- ==== Sys2Proof/Config.lean ====
section
/-! DEFINITION. The two parameters of the hardware (spec/00_scope.md R7); nothing else is configurable. State carries them
(log 1), so that every statement about a state is a statement for every value of them. -/

namespace Sys2Proof

/-- What a write of a whole byte into F from outside the ALU does to bits 3 to 0 (spec/10_state.md R33). -/
inductive FLowPolicy
  | retain
  | clear
  deriving DecidableEq, Repr

/-- `MEM_SIZE`, the number of bytes of the memory buffer, and `F_LOW_POLICY` (R7). -/
structure Config where
  memSize : Nat
  fLow : FLowPolicy
  deriving DecidableEq, Repr

/-- The legal values of R7: `1 ≤ MEM_SIZE ≤ 65536`; either policy. -/
def Config.wf (p : Config) : Bool :=
  decide (1 ≤ p.memSize ∧ p.memSize ≤ 65536)

/-- The instance `State.reset` uses: the full machine's size and the default policy (R7; log 1). -/
def Config.fullMachine : Config :=
  { memSize := 65536, fLow := .retain }

end Sys2Proof
end

