-- ==== Sys2Proof/Machine/Flags.lean ====
section
/-! DEFINITION. Every flag computation of the spec, on plain values: `flags` (spec/00_scope.md R9), `Add8` and `Sub8` (R11),
the logical families (spec/44_logic.md R230), INC (spec/43_inc.md R221, R222), ADD16 (spec/45_add16.md R251) and `FLow`
(spec/10_state.md R33). Sums are exact on naturals and narrowed at the end (R8, R10). -/

namespace Sys2Proof.Machine

/-- `flags(z, n, h, c)` = `{z, n, h, c, 0b0000}` (R9). -/
def flags (z n h c : Bool) : U8 :=
  BitVec.ofBool z ++ BitVec.ofBool n ++ BitVec.ofBool h ++ BitVec.ofBool c ++ 0#4

/-- F.Z, bit 7 (R29). -/
def flagZ (f : U8) : Bool := f.getLsbD 7

/-- F.N, bit 6 (R29). -/
def flagN (f : U8) : Bool := f.getLsbD 6

/-- F.H, bit 5 (R29). -/
def flagH (f : U8) : Bool := f.getLsbD 5

/-- F.C, bit 4 (R29). -/
def flagC (f : U8) : Bool := f.getLsbD 4

/-- `v[3:0]` as a number (R8). -/
def lowNibble (v : U8) : Nat := v.toNat % 16

/-- `Add8(a, v, cin)`: the result and the flags (R11). -/
def add8 (a v : U8) (cin : Bool) : U8 × U8 :=
  let t := a.toNat + v.toNat + cin.toNat
  let r := BitVec.ofNat 8 t
  (r, flags (decide (r = 0)) false (decide (lowNibble a + lowNibble v + cin.toNat > 15)) (decide (t > 255)))

/-- `Sub8(a, v, bin)`: the result and the flags (R11); the comparisons are on unbounded naturals (spec/42_alu8_arith.md
R195). -/
def sub8 (a v : U8) (bin : Bool) : U8 × U8 :=
  let r := BitVec.ofInt 8 ((a.toNat : Int) - v.toNat - bin.toNat)
  (r, flags (decide (r = 0)) true (decide (lowNibble a < lowNibble v + bin.toNat)) (decide (a.toNat < v.toNat + bin.toNat)))

/-- The flags of AND (`h` set) and of OR and XOR (`h` clear) on a result (spec/44_logic.md R230). -/
def logicFlags (h : Bool) (res : U8) : U8 :=
  flags (decide (res = 0)) false h false

/-- The new value and flags of INC on an 8-bit register (spec/43_inc.md R221). -/
def inc8 (old : U8) : U8 × U8 :=
  let new := BitVec.ofNat 8 (old.toNat + 1)
  (new, flags (decide (new = 0)) false (decide (old.toNat % 16 = 15)) false)

/-- The new value and flags of INC(HL): the 8-bit tests on the 16-bit quantity (spec/43_inc.md R222). -/
def inc16 (old : U16) : U16 × U8 :=
  let new := BitVec.ofNat 16 (old.toNat + 1)
  (new, flags (decide (new = 0)) false (decide (old.toNat % 16 = 15)) false)

/-- The new HL and F of ADD16: Z kept from the old F, N and F[3:0] zero (spec/45_add16.md R251). -/
def add16 (f : U8) (hl v : U16) : U16 × U8 :=
  let t := hl.toNat + v.toNat
  (BitVec.ofNat 16 t,
    (f &&& 0x80#8) ||| (if hl.toNat % 4096 + v.toNat % 4096 > 0xFFF then 0x20#8 else 0#8)
      ||| (if t > 0xFFFF then 0x10#8 else 0#8))

/-- `FLow(b)`: what a byte from outside the ALU leaves in F (spec/10_state.md R33). -/
def fLow (p : FLowPolicy) (b : U8) : U8 :=
  match p with
  | .retain => b
  | .clear => b &&& 0xF0#8

end Sys2Proof.Machine
end

