-- ==== Sys2Proof/Machine/State.lean ====
section
/-! DEFINITION. The state of the block as plain data, and its reset value. Registers, F, SP, PC and the fault latch are the
whole state of the block (spec/10_state.md R39); memory, the two parameters, the host's inputs and the last step's outputs
stand beside them because a step reads or writes them (log 1 to 4). -/

namespace Sys2Proof.Machine

/-- The memory buffer's contents: address and byte pairs, addresses strictly rising, no pair whose byte is what an unlisted
address reads as. -/
abbrev Memory := List Host.Cell

/-- The fault latch (spec/10_state.md R36). -/
structure FaultLatch where
  valid : Bool
  code : BitVec 2
  addr : U16
  word : Di32
  deriving DecidableEq, Repr

/-- One byte access on the memory port (spec/11_interfaces.md R54). -/
inductive Access
  /-- `mem_rd` at an address, and the byte it took. -/
  | read (addr : U16) (v : U8)
  /-- `mem_wr` at an address, and the byte it drove. -/
  | write (addr : U16) (v : U8)
  deriving DecidableEq, Repr

/-- What the last step drove besides the state: the `exec_done` pulse and the memory port's transactions, in order
(R50, R53, R54). The model's own field (log 4). -/
structure Outputs where
  execDone : Bool
  accesses : List Access
  deriving DecidableEq, Repr

/-- A host register write on its port: `hw_sel` and `hw_data` (R56, R57). -/
structure HostWrite where
  sel : BitVec 4
  data : U16
  deriving DecidableEq, Repr

/-- One instant at the block's input ports: `rst`, `exec_word` when `exec_valid`, a host write when `hw_valid` (R50). -/
structure PortInput where
  rst : Bool
  exec : Option Di32
  hostWrite : Option HostWrite
  deriving DecidableEq, Repr

/-- What the host does next (log 3). -/
inductive Input
  /-- One instant at the ports. -/
  | ports (p : PortInput)
  /-- The host stores a byte into its own memory between steps (R58). -/
  | memory (addr : U16) (v : U8)
  /-- A word is accepted and reset is asserted when the step has made `made` of its accesses
  (spec/70_reset_and_hazards.md R293; log 9). -/
  | abandoned (word : Di32) (made : Nat)
  deriving DecidableEq, Repr

/-- The machine. -/
structure State where
  /-- The accumulator (R21). -/
  a : U8
  b : U8
  c : U8
  d : U8
  e : U8
  h : U8
  l : U8
  /-- The flag register: Z, N, H, C in bits 7 to 4, four bits of plain storage below (R29, R33). -/
  f : U8
  /-- The stack pointer (R27). -/
  sp : U16
  /-- The program counter, storage only (R28). -/
  pc : U16
  /-- The fault latch (R36). -/
  fault : FaultLatch
  /-- `MEM_SIZE` and `F_LOW_POLICY` (spec/00_scope.md R7; log 1). -/
  cfg : Config
  /-- The host's memory buffer (spec/20_memory.md R70; log 2). -/
  mem : Memory
  /-- The host's next actions, the next one first (log 3). -/
  inputs : List Input
  /-- What the last step drove (log 4). -/
  out : Outputs
  deriving DecidableEq, Repr

/-- Why the machine stops. Both are raised by `step` alone, when a block that is already FAULTED is stepped without reset
(spec/11_interfaces.md R59: "a stop for good"); taking the fault itself is a next state with the latch set
(spec/60_exceptions.md R263; log 5). -/
inductive Fault
  /-- Raised by `step` in a FAULTED state whose latch holds code 1. SAFE: the hardware does nothing either until reset. -/
  | memOutOfRange (addr : U16) (word : Di32)
  /-- Raised by `step` in a FAULTED state whose latch holds code 2. SAFE: the hardware does nothing either until reset. -/
  | invariantViolation (word : Di32)
  deriving DecidableEq, Repr

/-- What the model gives no meaning to. -/
inductive Refusal
  /-- An instruction without a meaning; raised by no arm of this model. SAFE. -/
  | notModelled (mnemonic : String)
  /-- Raised by `step` when the listed host action is a store outside the host's own buffer, where no byte exists
  (spec/20_memory.md R72; log 8). SAFE: no instruction raises it. -/
  | hostStoreOutsideBuffer (addr : U16)
  deriving DecidableEq, Repr

/-- The three outcomes of a step of this machine. -/
abbrev Result := Host.Outcome State Fault Refusal

/-- The latch after reset: clear (R36, R39). -/
def FaultLatch.none : FaultLatch :=
  { valid := false, code := 0, addr := 0, word := 0 }

/-- A step that drives nothing. -/
def Outputs.quiet : Outputs :=
  { execDone := false, accesses := [] }

/-- The machine right after reset: every register, F, SP and PC zero, the latch clear (spec/10_state.md R39,
spec/70_reset_and_hazards.md R290). Memory lists nothing (log 2), the parameters are the full machine's (log 1), the host has
listed no action (log 3). -/
def State.reset : State :=
  { a := 0, b := 0, c := 0, d := 0, e := 0, h := 0, l := 0, f := 0, sp := 0, pc := 0
    fault := FaultLatch.none, cfg := Config.fullMachine, mem := [], inputs := [], out := Outputs.quiet }

end Sys2Proof.Machine
end

