-- ==== Sys2Proof/Machine/Ops.lean ====
section
/-! DEFINITION. The named operations over registers, views, memory and the fault latch (spec/00_scope.md R9): the only ways
an instruction touches the state; taking a fault (spec/60_exceptions.md R263) and reset, the only way out of it
(spec/70_reset_and_hazards.md R290). -/

namespace Sys2Proof.Machine

/-! ## Words -/

/-- `v[15:8]`. -/
def hiByte (v : U16) : U8 := v.extractLsb' 8 8

/-- `v[7:0]`. -/
def loByte (v : U16) : U8 := v.extractLsb' 0 8

/-- `{hi, lo}`. -/
def joinBytes (hi lo : U8) : U16 := hi ++ lo

/-- `zext_16(v)` (R8). -/
def zext16 (v : U8) : U16 := 0#8 ++ v

/-! ## Registers and views -/

/-- `x[r]`. -/
def State.reg (s : State) : Reg → U8
  | .A => s.a
  | .B => s.b
  | .C => s.c
  | .D => s.d
  | .E => s.e
  | .H => s.h
  | .L => s.l

/-- `x[r] <- v`. -/
def State.setReg (s : State) (r : Reg) (v : U8) : State :=
  match r with
  | .A => { s with a := v }
  | .B => { s with b := v }
  | .C => { s with c := v }
  | .D => { s with d := v }
  | .E => { s with e := v }
  | .H => { s with h := v }
  | .L => { s with l := v }

/-- The high register of a pair (spec/10_state.md R23). -/
def pairHi : Pair → Reg
  | .BC => .B
  | .DE => .D
  | .HL => .H

/-- The low register of a pair (R23). -/
def pairLo : Pair → Reg
  | .BC => .C
  | .DE => .E
  | .HL => .L

/-- `pair[p]`, computed from the two registers and never stored (R23, R26). -/
def State.pair (s : State) (p : Pair) : U16 :=
  joinBytes (s.reg (pairHi p)) (s.reg (pairLo p))

/-- `pair[p] <- v` (R23). -/
def State.setPair (s : State) (p : Pair) (v : U16) : State :=
  (s.setReg (pairHi p) (hiByte v)).setReg (pairLo p) (loByte v)

/-- `pair[AF]`: A and all eight bits of F (R24). -/
def State.af (s : State) : U16 :=
  joinBytes s.a s.f

/-- `pair[AF] <- v`: the low byte goes to F through `FLow` (R25). -/
def State.setAf (s : State) (v : U16) : State :=
  { s with a := hiByte v, f := fLow s.cfg.fLow (loByte v) }

/-! ## Memory -/

/-- What an unlisted address reads as. DESIGN CHOICE 0x00 (log 2). -/
def Memory.unlisted : U8 := 0

/-- The byte at an index of the buffer. -/
def Memory.read : Memory → Nat → U8
  | [], _ => Memory.unlisted
  | (k, v) :: m, a => if k = a then v else Memory.read m a

/-- The memory without an entry for an address. -/
def Memory.erase (m : Memory) (a : Nat) : Memory :=
  m.filter fun cell => cell.1 != a

/-- The memory with an entry for an address, in its place. -/
def Memory.insert : Memory → Nat → U8 → Memory
  | [], a, v => [(a, v)]
  | (k, w) :: m, a, v =>
    if a < k then (a, v) :: (k, w) :: m
    else if a = k then (a, v) :: m
    else (k, w) :: Memory.insert m a v

/-- One byte of the buffer replaced (spec/20_memory.md R74), the form kept canonical. -/
def Memory.write (m : Memory) (a : Nat) (v : U8) : Memory :=
  if v = Memory.unlisted then Memory.erase m a else Memory.insert m a v

/-- Addresses rise strictly. -/
def Memory.sorted : Memory → Bool
  | [] => true
  | [_] => true
  | (a, _) :: (b, w) :: m => decide (a < b) && Memory.sorted ((b, w) :: m)

/-- No entry equals what an unlisted address reads as. -/
def Memory.noDefault (m : Memory) : Bool :=
  m.all fun cell => cell.2 != Memory.unlisted

/-- The canonical form. -/
def Memory.wf (m : Memory) : Bool :=
  Memory.sorted m && Memory.noDefault m

/-- Every listed address is an index of a buffer of `size` bytes (R72). -/
def Memory.fits (size : Nat) (m : Memory) : Bool :=
  m.all fun cell => decide (cell.1 < size)

/-- An address is valid when it is below `MEM_SIZE` (R72). -/
def State.validAddr (s : State) (a : U16) : Bool :=
  decide (a.toNat < s.cfg.memSize)

/-- The memory port's record of a step, extended by one access. -/
def State.record (s : State) (x : Access) : State :=
  { s with out := { s.out with accesses := s.out.accesses ++ [x] } }

/-- `MemRead(a, 1)`: the byte, or the address that is out of range (R73). -/
def memRead (a : U16) (s : State) : Except U16 (U8 × State) :=
  if s.validAddr a then
    .ok (Memory.read s.mem a.toNat, s.record (.read a (Memory.read s.mem a.toNat)))
  else .error a

/-- `MemWrite(a, 1, v)`: the state with the byte stored, or the address that is out of range (R74). -/
def memWrite (a : U16) (v : U8) (s : State) : Except U16 State :=
  if s.validAddr a then
    .ok ({ s with mem := Memory.write s.mem a.toNat v }.record (.write a v))
  else .error a

/-! ## Faults and reset -/

/-- The two causes (spec/60_exceptions.md R260). -/
inductive Cause
  | memOutOfRange
  | invariantViolation
  deriving DecidableEq, Repr

/-- `fault.code` of a cause (R260). -/
def Cause.code : Cause → BitVec 2
  | .memOutOfRange => 1
  | .invariantViolation => 2

/-- Taking a fault: the latch is set and nothing else of the state changes; no access has been driven (R263, R264). -/
def State.takeFault (s : State) (cause : Cause) (addr : U16) (word : Di32) : State :=
  { s with fault := { valid := true, code := cause.code, addr := addr, word := word }, out := Outputs.quiet }

/-- Reset of the block: every register, F, SP, PC and the latch as in `State.reset`; memory, the parameters and the host's
own plans are not the block's (spec/70_reset_and_hazards.md R290, R291). There is no return from a fault but this
(spec/60_exceptions.md R265). -/
def State.resetBlock (s : State) : State :=
  { State.reset with cfg := s.cfg, mem := s.mem, inputs := s.inputs }

/-! ## Steps -/

/-- The state a step starts from: nothing driven yet. -/
def State.quiet (s : State) : State :=
  { s with out := Outputs.quiet }

/-- Completion of a step: `exec_done` is pulsed (spec/11_interfaces.md R53). -/
def State.complete (s : State) : State :=
  { s with out := { s.out with execDone := true } }

/-- The end of a step of the word `w` begun in `s`: completion with every write committed, or MemOutOfRange at the first
address that was out of range with none (R53; spec/60_exceptions.md R264, R266). -/
def commit (w : Di32) (s : State) (r : Except U16 State) : Result :=
  match r with
  | .ok t => .next t.complete
  | .error a => .next (s.takeFault .memOutOfRange a w)

end Sys2Proof.Machine
end

