-- ==== Sys2Proof/Machine/Operands.lean ====
section
/-! DEFINITION. Operand resolution, uniform across families (spec/30_encoding.md R105 to R107): the value of a source
operand, the store to a destination operand, and the shapes of instruction that are one source and one effect. -/

namespace Sys2Proof.Machine

/-- An 8-bit source operand. -/
inductive Src
  | reg (r : Reg)
  | ind (p : Pair)
  | abs (nn : U16)
  | imm (n : U8)
  deriving DecidableEq, Repr

/-- An 8-bit destination operand. -/
inductive Dst
  | reg (r : Reg)
  | ind (p : Pair)
  | abs (nn : U16)
  deriving DecidableEq, Repr

/-- A 16-bit source operand of ADD16 (spec/45_add16.md R250). -/
inductive Src16
  | pair (p : Pair)
  | sp
  deriving DecidableEq, Repr

/-- `SrcVal(s)` (R105). -/
def srcVal (x : Src) (s : State) : Except U16 (U8 × State) :=
  match x with
  | .reg r => .ok (s.reg r, s)
  | .ind p => memRead (s.pair p) s
  | .abs nn => memRead nn s
  | .imm n => .ok (n, s)

/-- `DstStore(d, v)` (R105). -/
def dstStore (d : Dst) (v : U8) (s : State) : Except U16 State :=
  match d with
  | .reg r => .ok (s.setReg r v)
  | .ind p => memWrite (s.pair p) v s
  | .abs nn => memWrite nn v s

/-- The value of a 16-bit source (R105). -/
def src16Val (x : Src16) (s : State) : U16 :=
  match x with
  | .pair p => s.pair p
  | .sp => s.sp

/-- An instruction that reads one 8-bit source and then changes registers by `f`. -/
def withSource (w : Di32) (x : Src) (f : State → U8 → State) (s : State) : Result :=
  commit w s ((srcVal x s.quiet).bind fun vs => .ok (f vs.2 vs.1))

/-- An instruction that reads one 8-bit source and stores it to one destination (spec/40_loads.md R130). -/
def move (w : Di32) (d : Dst) (x : Src) (s : State) : Result :=
  commit w s ((srcVal x s.quiet).bind fun vs => dstStore d vs.1 vs.2)

/-- An instruction that changes registers by `f` and makes no access. -/
def onRegisters (f : State → State) (s : State) : Result :=
  .next (f s.quiet).complete

end Sys2Proof.Machine
end

