-- ==== Sys2Proof/Machine/AddWide.lean ====
section
/-! DEFINITION. The meanings of ADD16 (spec/45_add16.md). Z of the old F is kept (R250). -/

namespace Sys2Proof.Machine

/-- ADD16 of a 16-bit source into HL (R251). -/
def State.add16 (x : Src16) (s : State) : State :=
  let r := Sys2Proof.Machine.add16 s.f (s.pair .HL) (src16Val x s)
  { s.setPair .HL r.1 with f := r.2 }

/-- `ADD16(BC)` (R251). -/
def execAdd16BC (s : State) : Result :=
  onRegisters (State.add16 (.pair .BC)) s

/-- `ADD16(DE)` (R251). -/
def execAdd16DE (s : State) : Result :=
  onRegisters (State.add16 (.pair .DE)) s

/-- `ADD16(HL)` (R251). -/
def execAdd16HL (s : State) : Result :=
  onRegisters (State.add16 (.pair .HL)) s

/-- `ADD16(SP)` (R251). -/
def execAdd16SP (s : State) : Result :=
  onRegisters (State.add16 .sp) s

end Sys2Proof.Machine
end

