-- ==== Sys2Proof/Machine/Arith.lean ====
section
/-! DEFINITION. The meanings of ADD, ADC, SUB, SBC and CP (spec/42_alu8_arith.md). Each replaces F wholesale (R180). -/

namespace Sys2Proof.Machine

/-- ADD of a value to A (R181). -/
def State.addA (s : State) (v : U8) : State :=
  { s with a := (add8 s.a v false).1, f := (add8 s.a v false).2 }

/-- ADC of a value to A, with the old carry (R187). -/
def State.adcA (s : State) (v : U8) : State :=
  { s with a := (add8 s.a v (flagC s.f)).1, f := (add8 s.a v (flagC s.f)).2 }

/-- SUB of a value from A (R191). -/
def State.subA (s : State) (v : U8) : State :=
  { s with a := (sub8 s.a v false).1, f := (sub8 s.a v false).2 }

/-- SBC of a value from A, with the old carry (R195). -/
def State.sbcA (s : State) (v : U8) : State :=
  { s with a := (sub8 s.a v (flagC s.f)).1, f := (sub8 s.a v (flagC s.f)).2 }

/-- CP of a value with A: the flags of SUB, A kept (R199). -/
def State.cpA (s : State) (v : U8) : State :=
  { s with f := (sub8 s.a v false).2 }

/-- `ADD(A)` (R184). -/
def execAddA (s : State) : Result :=
  withSource (encode .addA) (.reg .A) State.addA s

/-- `ADD(B)` (R184). -/
def execAddB (s : State) : Result :=
  withSource (encode .addB) (.reg .B) State.addA s

/-- `ADD(C)` (R184). -/
def execAddC (s : State) : Result :=
  withSource (encode .addC) (.reg .C) State.addA s

/-- `ADD(D)` (R184). -/
def execAddD (s : State) : Result :=
  withSource (encode .addD) (.reg .D) State.addA s

/-- `ADD(E)` (R184). -/
def execAddE (s : State) : Result :=
  withSource (encode .addE) (.reg .E) State.addA s

/-- `ADD(H)` (R184). -/
def execAddH (s : State) : Result :=
  withSource (encode .addH) (.reg .H) State.addA s

/-- `ADD(L)` (R184). -/
def execAddL (s : State) : Result :=
  withSource (encode .addL) (.reg .L) State.addA s

/-- `ADD((HL))` (R185). -/
def execAddMemHL (s : State) : Result :=
  withSource (encode .addMemHL) (.ind .HL) State.addA s

/-- `ADD(#n)` (R186). -/
def execAddImm (n : U8) (s : State) : Result :=
  withSource (encode (.addImm n)) (.imm n) State.addA s

/-- `ADC(A)` (R188). -/
def execAdcA (s : State) : Result :=
  withSource (encode .adcA) (.reg .A) State.adcA s

/-- `ADC(B)` (R188). -/
def execAdcB (s : State) : Result :=
  withSource (encode .adcB) (.reg .B) State.adcA s

/-- `ADC(C)` (R188). -/
def execAdcC (s : State) : Result :=
  withSource (encode .adcC) (.reg .C) State.adcA s

/-- `ADC(D)` (R188). -/
def execAdcD (s : State) : Result :=
  withSource (encode .adcD) (.reg .D) State.adcA s

/-- `ADC(E)` (R188). -/
def execAdcE (s : State) : Result :=
  withSource (encode .adcE) (.reg .E) State.adcA s

/-- `ADC(H)` (R188). -/
def execAdcH (s : State) : Result :=
  withSource (encode .adcH) (.reg .H) State.adcA s

/-- `ADC(L)` (R188). -/
def execAdcL (s : State) : Result :=
  withSource (encode .adcL) (.reg .L) State.adcA s

/-- `ADC((HL))` (R189). -/
def execAdcMemHL (s : State) : Result :=
  withSource (encode .adcMemHL) (.ind .HL) State.adcA s

/-- `ADC(#n)` (R190). -/
def execAdcImm (n : U8) (s : State) : Result :=
  withSource (encode (.adcImm n)) (.imm n) State.adcA s

/-- `SUB(A)` (R192). -/
def execSubA (s : State) : Result :=
  withSource (encode .subA) (.reg .A) State.subA s

/-- `SUB(B)` (R192). -/
def execSubB (s : State) : Result :=
  withSource (encode .subB) (.reg .B) State.subA s

/-- `SUB(C)` (R192). -/
def execSubC (s : State) : Result :=
  withSource (encode .subC) (.reg .C) State.subA s

/-- `SUB(D)` (R192). -/
def execSubD (s : State) : Result :=
  withSource (encode .subD) (.reg .D) State.subA s

/-- `SUB(E)` (R192). -/
def execSubE (s : State) : Result :=
  withSource (encode .subE) (.reg .E) State.subA s

/-- `SUB(H)` (R192). -/
def execSubH (s : State) : Result :=
  withSource (encode .subH) (.reg .H) State.subA s

/-- `SUB(L)` (R192). -/
def execSubL (s : State) : Result :=
  withSource (encode .subL) (.reg .L) State.subA s

/-- `SUB((HL))` (R193). -/
def execSubMemHL (s : State) : Result :=
  withSource (encode .subMemHL) (.ind .HL) State.subA s

/-- `SUB(#n)` (R194). -/
def execSubImm (n : U8) (s : State) : Result :=
  withSource (encode (.subImm n)) (.imm n) State.subA s

/-- `SBC(A)` (R196). -/
def execSbcA (s : State) : Result :=
  withSource (encode .sbcA) (.reg .A) State.sbcA s

/-- `SBC(B)` (R196). -/
def execSbcB (s : State) : Result :=
  withSource (encode .sbcB) (.reg .B) State.sbcA s

/-- `SBC(C)` (R196). -/
def execSbcC (s : State) : Result :=
  withSource (encode .sbcC) (.reg .C) State.sbcA s

/-- `SBC(D)` (R196). -/
def execSbcD (s : State) : Result :=
  withSource (encode .sbcD) (.reg .D) State.sbcA s

/-- `SBC(E)` (R196). -/
def execSbcE (s : State) : Result :=
  withSource (encode .sbcE) (.reg .E) State.sbcA s

/-- `SBC(H)` (R196). -/
def execSbcH (s : State) : Result :=
  withSource (encode .sbcH) (.reg .H) State.sbcA s

/-- `SBC(L)` (R196). -/
def execSbcL (s : State) : Result :=
  withSource (encode .sbcL) (.reg .L) State.sbcA s

/-- `SBC((HL))` (R197). -/
def execSbcMemHL (s : State) : Result :=
  withSource (encode .sbcMemHL) (.ind .HL) State.sbcA s

/-- `SBC(#n)` (R198). -/
def execSbcImm (n : U8) (s : State) : Result :=
  withSource (encode (.sbcImm n)) (.imm n) State.sbcA s

/-- `CP(A)` (R200). -/
def execCpA (s : State) : Result :=
  withSource (encode .cpA) (.reg .A) State.cpA s

/-- `CP(B)` (R200). -/
def execCpB (s : State) : Result :=
  withSource (encode .cpB) (.reg .B) State.cpA s

/-- `CP(C)` (R200). -/
def execCpC (s : State) : Result :=
  withSource (encode .cpC) (.reg .C) State.cpA s

/-- `CP(D)` (R200). -/
def execCpD (s : State) : Result :=
  withSource (encode .cpD) (.reg .D) State.cpA s

/-- `CP(E)` (R200). -/
def execCpE (s : State) : Result :=
  withSource (encode .cpE) (.reg .E) State.cpA s

/-- `CP(H)` (R200). -/
def execCpH (s : State) : Result :=
  withSource (encode .cpH) (.reg .H) State.cpA s

/-- `CP(L)` (R200). -/
def execCpL (s : State) : Result :=
  withSource (encode .cpL) (.reg .L) State.cpA s

/-- `CP((HL))` (R201). -/
def execCpMemHL (s : State) : Result :=
  withSource (encode .cpMemHL) (.ind .HL) State.cpA s

/-- `CP(#n)` (R202). -/
def execCpImm (n : U8) (s : State) : Result :=
  withSource (encode (.cpImm n)) (.imm n) State.cpA s

end Sys2Proof.Machine
end

