-- ==== Sys2Proof/Machine/Inc.lean ====
section
/-! DEFINITION. The meanings of INC (spec/43_inc.md). F is replaced wholesale, N and C are written 0 (R220). -/

namespace Sys2Proof.Machine

/-- INC of an 8-bit register (R221). -/
def State.incReg (r : Reg) (s : State) : State :=
  { s.setReg r (inc8 (s.reg r)).1 with f := (inc8 (s.reg r)).2 }

/-- INC of the pair HL (R222). -/
def State.incHL (s : State) : State :=
  { s.setPair .HL (inc16 (s.pair .HL)).1 with f := (inc16 (s.pair .HL)).2 }

/-- `INC(A)` (R221). -/
def execIncA (s : State) : Result :=
  onRegisters (State.incReg .A) s

/-- `INC(B)` (R221). -/
def execIncB (s : State) : Result :=
  onRegisters (State.incReg .B) s

/-- `INC(C)` (R221). -/
def execIncC (s : State) : Result :=
  onRegisters (State.incReg .C) s

/-- `INC(D)` (R221). -/
def execIncD (s : State) : Result :=
  onRegisters (State.incReg .D) s

/-- `INC(E)` (R221). -/
def execIncE (s : State) : Result :=
  onRegisters (State.incReg .E) s

/-- `INC(H)` (R221). -/
def execIncH (s : State) : Result :=
  onRegisters (State.incReg .H) s

/-- `INC(L)` (R221). -/
def execIncL (s : State) : Result :=
  onRegisters (State.incReg .L) s

/-- `INC(HL)` (R222). -/
def execIncPairHL (s : State) : Result :=
  onRegisters State.incHL s

end Sys2Proof.Machine
end

