-- ==== Sys2Proof/Machine/Loads.lean ====
section
/-! DEFINITION. The meanings of LDN, LDRR, LDA and LDFA (spec/40_loads.md). None reads or writes F, SP or PC (R130). -/

namespace Sys2Proof.Machine

/-- `pair[p] <- zext_16(n)` (R132). -/
def State.loadPair (p : Pair) (n : U8) (s : State) : State :=
  s.setPair p (zext16 n)

/-- `LDN(A, #n)` (R131). -/
def execLdnA (n : U8) (s : State) : Result :=
  move (encode (.ldnA n)) (.reg .A) (.imm n) s

/-- `LDN(B, #n)` (R131). -/
def execLdnB (n : U8) (s : State) : Result :=
  move (encode (.ldnB n)) (.reg .B) (.imm n) s

/-- `LDN(C, #n)` (R131). -/
def execLdnC (n : U8) (s : State) : Result :=
  move (encode (.ldnC n)) (.reg .C) (.imm n) s

/-- `LDN(D, #n)` (R131). -/
def execLdnD (n : U8) (s : State) : Result :=
  move (encode (.ldnD n)) (.reg .D) (.imm n) s

/-- `LDN(E, #n)` (R131). -/
def execLdnE (n : U8) (s : State) : Result :=
  move (encode (.ldnE n)) (.reg .E) (.imm n) s

/-- `LDN(H, #n)` (R131). -/
def execLdnH (n : U8) (s : State) : Result :=
  move (encode (.ldnH n)) (.reg .H) (.imm n) s

/-- `LDN(L, #n)` (R131). -/
def execLdnL (n : U8) (s : State) : Result :=
  move (encode (.ldnL n)) (.reg .L) (.imm n) s

/-- `LDN(BC, #n)` (R132). -/
def execLdnPairBC (n : U8) (s : State) : Result :=
  onRegisters (State.loadPair .BC n) s

/-- `LDN(DE, #n)` (R132). -/
def execLdnPairDE (n : U8) (s : State) : Result :=
  onRegisters (State.loadPair .DE n) s

/-- `LDN(HL, #n)` (R132). -/
def execLdnPairHL (n : U8) (s : State) : Result :=
  onRegisters (State.loadPair .HL n) s

/-- `LDRR(A, A)` (R135). -/
def execLdrrAFromA (s : State) : Result :=
  move (encode .ldrrAFromA) (.reg .A) (.reg .A) s

/-- `LDRR(A, B)` (R135). -/
def execLdrrAFromB (s : State) : Result :=
  move (encode .ldrrAFromB) (.reg .A) (.reg .B) s

/-- `LDRR(A, C)` (R135). -/
def execLdrrAFromC (s : State) : Result :=
  move (encode .ldrrAFromC) (.reg .A) (.reg .C) s

/-- `LDRR(A, D)` (R135). -/
def execLdrrAFromD (s : State) : Result :=
  move (encode .ldrrAFromD) (.reg .A) (.reg .D) s

/-- `LDRR(A, E)` (R135). -/
def execLdrrAFromE (s : State) : Result :=
  move (encode .ldrrAFromE) (.reg .A) (.reg .E) s

/-- `LDRR(A, H)` (R135). -/
def execLdrrAFromH (s : State) : Result :=
  move (encode .ldrrAFromH) (.reg .A) (.reg .H) s

/-- `LDRR(A, L)` (R135). -/
def execLdrrAFromL (s : State) : Result :=
  move (encode .ldrrAFromL) (.reg .A) (.reg .L) s

/-- `LDRR(A, (HL))` (R136). -/
def execLdrrAFromMemHL (s : State) : Result :=
  move (encode .ldrrAFromMemHL) (.reg .A) (.ind .HL) s

/-- `LDRR(B, A)` (R135). -/
def execLdrrBFromA (s : State) : Result :=
  move (encode .ldrrBFromA) (.reg .B) (.reg .A) s

/-- `LDRR(B, B)` (R135). -/
def execLdrrBFromB (s : State) : Result :=
  move (encode .ldrrBFromB) (.reg .B) (.reg .B) s

/-- `LDRR(B, C)` (R135). -/
def execLdrrBFromC (s : State) : Result :=
  move (encode .ldrrBFromC) (.reg .B) (.reg .C) s

/-- `LDRR(B, D)` (R135). -/
def execLdrrBFromD (s : State) : Result :=
  move (encode .ldrrBFromD) (.reg .B) (.reg .D) s

/-- `LDRR(B, E)` (R135). -/
def execLdrrBFromE (s : State) : Result :=
  move (encode .ldrrBFromE) (.reg .B) (.reg .E) s

/-- `LDRR(B, H)` (R135). -/
def execLdrrBFromH (s : State) : Result :=
  move (encode .ldrrBFromH) (.reg .B) (.reg .H) s

/-- `LDRR(B, L)` (R135). -/
def execLdrrBFromL (s : State) : Result :=
  move (encode .ldrrBFromL) (.reg .B) (.reg .L) s

/-- `LDRR(B, (HL))` (R136). -/
def execLdrrBFromMemHL (s : State) : Result :=
  move (encode .ldrrBFromMemHL) (.reg .B) (.ind .HL) s

/-- `LDRR(C, A)` (R135). -/
def execLdrrCFromA (s : State) : Result :=
  move (encode .ldrrCFromA) (.reg .C) (.reg .A) s

/-- `LDRR(C, B)` (R135). -/
def execLdrrCFromB (s : State) : Result :=
  move (encode .ldrrCFromB) (.reg .C) (.reg .B) s

/-- `LDRR(C, C)` (R135). -/
def execLdrrCFromC (s : State) : Result :=
  move (encode .ldrrCFromC) (.reg .C) (.reg .C) s

/-- `LDRR(C, D)` (R135). -/
def execLdrrCFromD (s : State) : Result :=
  move (encode .ldrrCFromD) (.reg .C) (.reg .D) s

/-- `LDRR(C, E)` (R135). -/
def execLdrrCFromE (s : State) : Result :=
  move (encode .ldrrCFromE) (.reg .C) (.reg .E) s

/-- `LDRR(C, H)` (R135). -/
def execLdrrCFromH (s : State) : Result :=
  move (encode .ldrrCFromH) (.reg .C) (.reg .H) s

/-- `LDRR(C, L)` (R135). -/
def execLdrrCFromL (s : State) : Result :=
  move (encode .ldrrCFromL) (.reg .C) (.reg .L) s

/-- `LDRR(C, (HL))` (R136). -/
def execLdrrCFromMemHL (s : State) : Result :=
  move (encode .ldrrCFromMemHL) (.reg .C) (.ind .HL) s

/-- `LDRR(D, A)` (R135). -/
def execLdrrDFromA (s : State) : Result :=
  move (encode .ldrrDFromA) (.reg .D) (.reg .A) s

/-- `LDRR(D, B)` (R135). -/
def execLdrrDFromB (s : State) : Result :=
  move (encode .ldrrDFromB) (.reg .D) (.reg .B) s

/-- `LDRR(D, C)` (R135). -/
def execLdrrDFromC (s : State) : Result :=
  move (encode .ldrrDFromC) (.reg .D) (.reg .C) s

/-- `LDRR(D, D)` (R135). -/
def execLdrrDFromD (s : State) : Result :=
  move (encode .ldrrDFromD) (.reg .D) (.reg .D) s

/-- `LDRR(D, E)` (R135). -/
def execLdrrDFromE (s : State) : Result :=
  move (encode .ldrrDFromE) (.reg .D) (.reg .E) s

/-- `LDRR(D, H)` (R135). -/
def execLdrrDFromH (s : State) : Result :=
  move (encode .ldrrDFromH) (.reg .D) (.reg .H) s

/-- `LDRR(D, L)` (R135). -/
def execLdrrDFromL (s : State) : Result :=
  move (encode .ldrrDFromL) (.reg .D) (.reg .L) s

/-- `LDRR(D, (HL))` (R136). -/
def execLdrrDFromMemHL (s : State) : Result :=
  move (encode .ldrrDFromMemHL) (.reg .D) (.ind .HL) s

/-- `LDRR(E, A)` (R135). -/
def execLdrrEFromA (s : State) : Result :=
  move (encode .ldrrEFromA) (.reg .E) (.reg .A) s

/-- `LDRR(E, B)` (R135). -/
def execLdrrEFromB (s : State) : Result :=
  move (encode .ldrrEFromB) (.reg .E) (.reg .B) s

/-- `LDRR(E, C)` (R135). -/
def execLdrrEFromC (s : State) : Result :=
  move (encode .ldrrEFromC) (.reg .E) (.reg .C) s

/-- `LDRR(E, D)` (R135). -/
def execLdrrEFromD (s : State) : Result :=
  move (encode .ldrrEFromD) (.reg .E) (.reg .D) s

/-- `LDRR(E, E)` (R135). -/
def execLdrrEFromE (s : State) : Result :=
  move (encode .ldrrEFromE) (.reg .E) (.reg .E) s

/-- `LDRR(E, H)` (R135). -/
def execLdrrEFromH (s : State) : Result :=
  move (encode .ldrrEFromH) (.reg .E) (.reg .H) s

/-- `LDRR(E, L)` (R135). -/
def execLdrrEFromL (s : State) : Result :=
  move (encode .ldrrEFromL) (.reg .E) (.reg .L) s

/-- `LDRR(E, (HL))` (R136). -/
def execLdrrEFromMemHL (s : State) : Result :=
  move (encode .ldrrEFromMemHL) (.reg .E) (.ind .HL) s

/-- `LDRR(H, A)` (R135). -/
def execLdrrHFromA (s : State) : Result :=
  move (encode .ldrrHFromA) (.reg .H) (.reg .A) s

/-- `LDRR(H, B)` (R135). -/
def execLdrrHFromB (s : State) : Result :=
  move (encode .ldrrHFromB) (.reg .H) (.reg .B) s

/-- `LDRR(H, C)` (R135). -/
def execLdrrHFromC (s : State) : Result :=
  move (encode .ldrrHFromC) (.reg .H) (.reg .C) s

/-- `LDRR(H, D)` (R135). -/
def execLdrrHFromD (s : State) : Result :=
  move (encode .ldrrHFromD) (.reg .H) (.reg .D) s

/-- `LDRR(H, E)` (R135). -/
def execLdrrHFromE (s : State) : Result :=
  move (encode .ldrrHFromE) (.reg .H) (.reg .E) s

/-- `LDRR(H, H)` (R135). -/
def execLdrrHFromH (s : State) : Result :=
  move (encode .ldrrHFromH) (.reg .H) (.reg .H) s

/-- `LDRR(H, L)` (R135). -/
def execLdrrHFromL (s : State) : Result :=
  move (encode .ldrrHFromL) (.reg .H) (.reg .L) s

/-- `LDRR(H, (HL))` (R136). -/
def execLdrrHFromMemHL (s : State) : Result :=
  move (encode .ldrrHFromMemHL) (.reg .H) (.ind .HL) s

/-- `LDRR(L, A)` (R135). -/
def execLdrrLFromA (s : State) : Result :=
  move (encode .ldrrLFromA) (.reg .L) (.reg .A) s

/-- `LDRR(L, B)` (R135). -/
def execLdrrLFromB (s : State) : Result :=
  move (encode .ldrrLFromB) (.reg .L) (.reg .B) s

/-- `LDRR(L, C)` (R135). -/
def execLdrrLFromC (s : State) : Result :=
  move (encode .ldrrLFromC) (.reg .L) (.reg .C) s

/-- `LDRR(L, D)` (R135). -/
def execLdrrLFromD (s : State) : Result :=
  move (encode .ldrrLFromD) (.reg .L) (.reg .D) s

/-- `LDRR(L, E)` (R135). -/
def execLdrrLFromE (s : State) : Result :=
  move (encode .ldrrLFromE) (.reg .L) (.reg .E) s

/-- `LDRR(L, H)` (R135). -/
def execLdrrLFromH (s : State) : Result :=
  move (encode .ldrrLFromH) (.reg .L) (.reg .H) s

/-- `LDRR(L, L)` (R135). -/
def execLdrrLFromL (s : State) : Result :=
  move (encode .ldrrLFromL) (.reg .L) (.reg .L) s

/-- `LDRR(L, (HL))` (R136). -/
def execLdrrLFromMemHL (s : State) : Result :=
  move (encode .ldrrLFromMemHL) (.reg .L) (.ind .HL) s

/-- `LDRR((HL), A)` (R137). -/
def execLdrrMemHLFromA (s : State) : Result :=
  move (encode .ldrrMemHLFromA) (.ind .HL) (.reg .A) s

/-- `LDRR((HL), B)` (R137). -/
def execLdrrMemHLFromB (s : State) : Result :=
  move (encode .ldrrMemHLFromB) (.ind .HL) (.reg .B) s

/-- `LDRR((HL), C)` (R137). -/
def execLdrrMemHLFromC (s : State) : Result :=
  move (encode .ldrrMemHLFromC) (.ind .HL) (.reg .C) s

/-- `LDRR((HL), D)` (R137). -/
def execLdrrMemHLFromD (s : State) : Result :=
  move (encode .ldrrMemHLFromD) (.ind .HL) (.reg .D) s

/-- `LDRR((HL), E)` (R137). -/
def execLdrrMemHLFromE (s : State) : Result :=
  move (encode .ldrrMemHLFromE) (.ind .HL) (.reg .E) s

/-- `LDRR((HL), H)` (R137). -/
def execLdrrMemHLFromH (s : State) : Result :=
  move (encode .ldrrMemHLFromH) (.ind .HL) (.reg .H) s

/-- `LDRR((HL), L)` (R137). -/
def execLdrrMemHLFromL (s : State) : Result :=
  move (encode .ldrrMemHLFromL) (.ind .HL) (.reg .L) s

/-- `LDRR((HL), (HL))` (R138). -/
def execLdrrMemHLFromMemHL (s : State) : Result :=
  move (encode .ldrrMemHLFromMemHL) (.ind .HL) (.ind .HL) s

/-- `LDA(A)` (R141). -/
def execLdaFromA (s : State) : Result :=
  move (encode .ldaFromA) (.reg .A) (.reg .A) s

/-- `LDA(B)` (R141). -/
def execLdaFromB (s : State) : Result :=
  move (encode .ldaFromB) (.reg .A) (.reg .B) s

/-- `LDA(C)` (R141). -/
def execLdaFromC (s : State) : Result :=
  move (encode .ldaFromC) (.reg .A) (.reg .C) s

/-- `LDA(D)` (R141). -/
def execLdaFromD (s : State) : Result :=
  move (encode .ldaFromD) (.reg .A) (.reg .D) s

/-- `LDA(E)` (R141). -/
def execLdaFromE (s : State) : Result :=
  move (encode .ldaFromE) (.reg .A) (.reg .E) s

/-- `LDA(H)` (R141). -/
def execLdaFromH (s : State) : Result :=
  move (encode .ldaFromH) (.reg .A) (.reg .H) s

/-- `LDA(L)` (R141). -/
def execLdaFromL (s : State) : Result :=
  move (encode .ldaFromL) (.reg .A) (.reg .L) s

/-- `LDA((BC))` (R142). -/
def execLdaFromMemBC (s : State) : Result :=
  move (encode .ldaFromMemBC) (.reg .A) (.ind .BC) s

/-- `LDA((DE))` (R142). -/
def execLdaFromMemDE (s : State) : Result :=
  move (encode .ldaFromMemDE) (.reg .A) (.ind .DE) s

/-- `LDA((HL))` (R142). -/
def execLdaFromMemHL (s : State) : Result :=
  move (encode .ldaFromMemHL) (.reg .A) (.ind .HL) s

/-- `LDA((nn))` (R143). -/
def execLdaFromAbs (nn : U16) (s : State) : Result :=
  move (encode (.ldaFromAbs nn)) (.reg .A) (.abs nn) s

/-- `LDA(#n)` (R144). -/
def execLdaFromImm (n : U8) (s : State) : Result :=
  move (encode (.ldaFromImm n)) (.reg .A) (.imm n) s

/-- `LDFA(A)` (R146). -/
def execLdfaToA (s : State) : Result :=
  move (encode .ldfaToA) (.reg .A) (.reg .A) s

/-- `LDFA(B)` (R146). -/
def execLdfaToB (s : State) : Result :=
  move (encode .ldfaToB) (.reg .B) (.reg .A) s

/-- `LDFA(C)` (R146). -/
def execLdfaToC (s : State) : Result :=
  move (encode .ldfaToC) (.reg .C) (.reg .A) s

/-- `LDFA(D)` (R146). -/
def execLdfaToD (s : State) : Result :=
  move (encode .ldfaToD) (.reg .D) (.reg .A) s

/-- `LDFA(E)` (R146). -/
def execLdfaToE (s : State) : Result :=
  move (encode .ldfaToE) (.reg .E) (.reg .A) s

/-- `LDFA(H)` (R146). -/
def execLdfaToH (s : State) : Result :=
  move (encode .ldfaToH) (.reg .H) (.reg .A) s

/-- `LDFA(L)` (R146). -/
def execLdfaToL (s : State) : Result :=
  move (encode .ldfaToL) (.reg .L) (.reg .A) s

/-- `LDFA((BC))` (R147). -/
def execLdfaToMemBC (s : State) : Result :=
  move (encode .ldfaToMemBC) (.ind .BC) (.reg .A) s

/-- `LDFA((DE))` (R147). -/
def execLdfaToMemDE (s : State) : Result :=
  move (encode .ldfaToMemDE) (.ind .DE) (.reg .A) s

/-- `LDFA((HL))` (R147). -/
def execLdfaToMemHL (s : State) : Result :=
  move (encode .ldfaToMemHL) (.ind .HL) (.reg .A) s

/-- `LDFA((nn))` (R148). -/
def execLdfaToAbs (nn : U16) (s : State) : Result :=
  move (encode (.ldfaToAbs nn)) (.abs nn) (.reg .A) s

end Sys2Proof.Machine
end

