-- ==== Sys2Proof/Machine/Logic.lean ====
section
/-! DEFINITION. The meanings of AND, OR and XOR (spec/44_logic.md). Each replaces F wholesale (R230). -/

namespace Sys2Proof.Machine

/-- AND of a value into A (R230, R232). -/
def State.andA (s : State) (v : U8) : State :=
  { s with a := s.a &&& v, f := logicFlags true (s.a &&& v) }

/-- OR of a value into A (R230, R236). -/
def State.orA (s : State) (v : U8) : State :=
  { s with a := s.a ||| v, f := logicFlags false (s.a ||| v) }

/-- XOR of a value into A (R230, R240). -/
def State.xorA (s : State) (v : U8) : State :=
  { s with a := s.a ^^^ v, f := logicFlags false (s.a ^^^ v) }

/-- `AND(A)` (R232). -/
def execAndA (s : State) : Result :=
  withSource (encode .andA) (.reg .A) State.andA s

/-- `AND(B)` (R232). -/
def execAndB (s : State) : Result :=
  withSource (encode .andB) (.reg .B) State.andA s

/-- `AND(C)` (R232). -/
def execAndC (s : State) : Result :=
  withSource (encode .andC) (.reg .C) State.andA s

/-- `AND(D)` (R232). -/
def execAndD (s : State) : Result :=
  withSource (encode .andD) (.reg .D) State.andA s

/-- `AND(E)` (R232). -/
def execAndE (s : State) : Result :=
  withSource (encode .andE) (.reg .E) State.andA s

/-- `AND(H)` (R232). -/
def execAndH (s : State) : Result :=
  withSource (encode .andH) (.reg .H) State.andA s

/-- `AND(L)` (R232). -/
def execAndL (s : State) : Result :=
  withSource (encode .andL) (.reg .L) State.andA s

/-- `AND((HL))` (R233). -/
def execAndMemHL (s : State) : Result :=
  withSource (encode .andMemHL) (.ind .HL) State.andA s

/-- `AND(#n)` (R234). -/
def execAndImm (n : U8) (s : State) : Result :=
  withSource (encode (.andImm n)) (.imm n) State.andA s

/-- `OR(A)` (R236). -/
def execOrA (s : State) : Result :=
  withSource (encode .orA) (.reg .A) State.orA s

/-- `OR(B)` (R236). -/
def execOrB (s : State) : Result :=
  withSource (encode .orB) (.reg .B) State.orA s

/-- `OR(C)` (R236). -/
def execOrC (s : State) : Result :=
  withSource (encode .orC) (.reg .C) State.orA s

/-- `OR(D)` (R236). -/
def execOrD (s : State) : Result :=
  withSource (encode .orD) (.reg .D) State.orA s

/-- `OR(E)` (R236). -/
def execOrE (s : State) : Result :=
  withSource (encode .orE) (.reg .E) State.orA s

/-- `OR(H)` (R236). -/
def execOrH (s : State) : Result :=
  withSource (encode .orH) (.reg .H) State.orA s

/-- `OR(L)` (R236). -/
def execOrL (s : State) : Result :=
  withSource (encode .orL) (.reg .L) State.orA s

/-- `OR((HL))` (R237). -/
def execOrMemHL (s : State) : Result :=
  withSource (encode .orMemHL) (.ind .HL) State.orA s

/-- `OR(#n)` (R238). -/
def execOrImm (n : U8) (s : State) : Result :=
  withSource (encode (.orImm n)) (.imm n) State.orA s

/-- `XOR(A)` (R240). -/
def execXorA (s : State) : Result :=
  withSource (encode .xorA) (.reg .A) State.xorA s

/-- `XOR(B)` (R240). -/
def execXorB (s : State) : Result :=
  withSource (encode .xorB) (.reg .B) State.xorA s

/-- `XOR(C)` (R240). -/
def execXorC (s : State) : Result :=
  withSource (encode .xorC) (.reg .C) State.xorA s

/-- `XOR(D)` (R240). -/
def execXorD (s : State) : Result :=
  withSource (encode .xorD) (.reg .D) State.xorA s

/-- `XOR(E)` (R240). -/
def execXorE (s : State) : Result :=
  withSource (encode .xorE) (.reg .E) State.xorA s

/-- `XOR(H)` (R240). -/
def execXorH (s : State) : Result :=
  withSource (encode .xorH) (.reg .H) State.xorA s

/-- `XOR(L)` (R240). -/
def execXorL (s : State) : Result :=
  withSource (encode .xorL) (.reg .L) State.xorA s

/-- `XOR((HL))` (R241). -/
def execXorMemHL (s : State) : Result :=
  withSource (encode .xorMemHL) (.ind .HL) State.xorA s

/-- `XOR(#n)` (R242). -/
def execXorImm (n : U8) (s : State) : Result :=
  withSource (encode (.xorImm n)) (.imm n) State.xorA s

end Sys2Proof.Machine
end

