-- ==== Sys2Proof/Machine/Stack.lean ====
section
/-! DEFINITION. The meanings of PUSH and POP (spec/41_stack.md): a descending stack whose SP is the address the next pushed
byte goes to (R170). -/

namespace Sys2Proof.Machine

/-- The push of a 16-bit value: high byte at SP, low byte one below, SP two lower (R171). -/
def pushWord (w : Di32) (v : U16) (s : State) : Result :=
  commit w s
    ((memWrite s.sp (hiByte v) s.quiet).bind fun s1 =>
      (memWrite (s.sp - 1) (loByte v) s1).bind fun s2 =>
        .ok { s2 with sp := s.sp - 2 })

/-- The pop of a 16-bit value: low byte at SP + 1, high byte at SP + 2, the value written back by `put`, SP two higher
(R173, R174). -/
def popWord (w : Di32) (put : State → U16 → State) (s : State) : Result :=
  commit w s
    ((memRead (s.sp + 1) s.quiet).bind fun lo =>
      (memRead (s.sp + 2) lo.2).bind fun hi =>
        .ok { put hi.2 (joinBytes hi.1 lo.1) with sp := s.sp + 2 })

/-- `PUSH(BC)` (R171). -/
def execPushBC (s : State) : Result :=
  pushWord (encode .pushBC) (s.pair .BC) s

/-- `PUSH(DE)` (R171). -/
def execPushDE (s : State) : Result :=
  pushWord (encode .pushDE) (s.pair .DE) s

/-- `PUSH(HL)` (R171). -/
def execPushHL (s : State) : Result :=
  pushWord (encode .pushHL) (s.pair .HL) s

/-- `PUSH(AF)` (R171). -/
def execPushAF (s : State) : Result :=
  pushWord (encode .pushAF) s.af s

/-- `POP(BC)` (R173). -/
def execPopBC (s : State) : Result :=
  popWord (encode .popBC) (fun t v => t.setPair .BC v) s

/-- `POP(DE)` (R173). -/
def execPopDE (s : State) : Result :=
  popWord (encode .popDE) (fun t v => t.setPair .DE v) s

/-- `POP(HL)` (R173). -/
def execPopHL (s : State) : Result :=
  popWord (encode .popHL) (fun t v => t.setPair .HL v) s

/-- `POP(AF)` (R174). -/
def execPopAF (s : State) : Result :=
  popWord (encode .popAF) State.setAf s

end Sys2Proof.Machine
end

