-- ==== Sys2Proof/Machine/Dispatch.lean ====
section
/-! DEFINITION. The dispatch of an instruction to its meaning: one arm per constructor. -/

namespace Sys2Proof.Machine

def exec (i : Instr) (s : State) : Host.Outcome State Fault Refusal :=
  match i with
  | .ldnA n => Sys2Proof.Machine.execLdnA n s
  | .ldnB n => Sys2Proof.Machine.execLdnB n s
  | .ldnC n => Sys2Proof.Machine.execLdnC n s
  | .ldnD n => Sys2Proof.Machine.execLdnD n s
  | .ldnE n => Sys2Proof.Machine.execLdnE n s
  | .ldnH n => Sys2Proof.Machine.execLdnH n s
  | .ldnL n => Sys2Proof.Machine.execLdnL n s
  | .ldnPairBC n => Sys2Proof.Machine.execLdnPairBC n s
  | .ldnPairDE n => Sys2Proof.Machine.execLdnPairDE n s
  | .ldnPairHL n => Sys2Proof.Machine.execLdnPairHL n s
  | .ldrrAFromA => Sys2Proof.Machine.execLdrrAFromA s
  | .ldrrAFromB => Sys2Proof.Machine.execLdrrAFromB s
  | .ldrrAFromC => Sys2Proof.Machine.execLdrrAFromC s
  | .ldrrAFromD => Sys2Proof.Machine.execLdrrAFromD s
  | .ldrrAFromE => Sys2Proof.Machine.execLdrrAFromE s
  | .ldrrAFromH => Sys2Proof.Machine.execLdrrAFromH s
  | .ldrrAFromL => Sys2Proof.Machine.execLdrrAFromL s
  | .ldrrAFromMemHL => Sys2Proof.Machine.execLdrrAFromMemHL s
  | .ldrrBFromA => Sys2Proof.Machine.execLdrrBFromA s
  | .ldrrBFromB => Sys2Proof.Machine.execLdrrBFromB s
  | .ldrrBFromC => Sys2Proof.Machine.execLdrrBFromC s
  | .ldrrBFromD => Sys2Proof.Machine.execLdrrBFromD s
  | .ldrrBFromE => Sys2Proof.Machine.execLdrrBFromE s
  | .ldrrBFromH => Sys2Proof.Machine.execLdrrBFromH s
  | .ldrrBFromL => Sys2Proof.Machine.execLdrrBFromL s
  | .ldrrBFromMemHL => Sys2Proof.Machine.execLdrrBFromMemHL s
  | .ldrrCFromA => Sys2Proof.Machine.execLdrrCFromA s
  | .ldrrCFromB => Sys2Proof.Machine.execLdrrCFromB s
  | .ldrrCFromC => Sys2Proof.Machine.execLdrrCFromC s
  | .ldrrCFromD => Sys2Proof.Machine.execLdrrCFromD s
  | .ldrrCFromE => Sys2Proof.Machine.execLdrrCFromE s
  | .ldrrCFromH => Sys2Proof.Machine.execLdrrCFromH s
  | .ldrrCFromL => Sys2Proof.Machine.execLdrrCFromL s
  | .ldrrCFromMemHL => Sys2Proof.Machine.execLdrrCFromMemHL s
  | .ldrrDFromA => Sys2Proof.Machine.execLdrrDFromA s
  | .ldrrDFromB => Sys2Proof.Machine.execLdrrDFromB s
  | .ldrrDFromC => Sys2Proof.Machine.execLdrrDFromC s
  | .ldrrDFromD => Sys2Proof.Machine.execLdrrDFromD s
  | .ldrrDFromE => Sys2Proof.Machine.execLdrrDFromE s
  | .ldrrDFromH => Sys2Proof.Machine.execLdrrDFromH s
  | .ldrrDFromL => Sys2Proof.Machine.execLdrrDFromL s
  | .ldrrDFromMemHL => Sys2Proof.Machine.execLdrrDFromMemHL s
  | .ldrrEFromA => Sys2Proof.Machine.execLdrrEFromA s
  | .ldrrEFromB => Sys2Proof.Machine.execLdrrEFromB s
  | .ldrrEFromC => Sys2Proof.Machine.execLdrrEFromC s
  | .ldrrEFromD => Sys2Proof.Machine.execLdrrEFromD s
  | .ldrrEFromE => Sys2Proof.Machine.execLdrrEFromE s
  | .ldrrEFromH => Sys2Proof.Machine.execLdrrEFromH s
  | .ldrrEFromL => Sys2Proof.Machine.execLdrrEFromL s
  | .ldrrEFromMemHL => Sys2Proof.Machine.execLdrrEFromMemHL s
  | .ldrrHFromA => Sys2Proof.Machine.execLdrrHFromA s
  | .ldrrHFromB => Sys2Proof.Machine.execLdrrHFromB s
  | .ldrrHFromC => Sys2Proof.Machine.execLdrrHFromC s
  | .ldrrHFromD => Sys2Proof.Machine.execLdrrHFromD s
  | .ldrrHFromE => Sys2Proof.Machine.execLdrrHFromE s
  | .ldrrHFromH => Sys2Proof.Machine.execLdrrHFromH s
  | .ldrrHFromL => Sys2Proof.Machine.execLdrrHFromL s
  | .ldrrHFromMemHL => Sys2Proof.Machine.execLdrrHFromMemHL s
  | .ldrrLFromA => Sys2Proof.Machine.execLdrrLFromA s
  | .ldrrLFromB => Sys2Proof.Machine.execLdrrLFromB s
  | .ldrrLFromC => Sys2Proof.Machine.execLdrrLFromC s
  | .ldrrLFromD => Sys2Proof.Machine.execLdrrLFromD s
  | .ldrrLFromE => Sys2Proof.Machine.execLdrrLFromE s
  | .ldrrLFromH => Sys2Proof.Machine.execLdrrLFromH s
  | .ldrrLFromL => Sys2Proof.Machine.execLdrrLFromL s
  | .ldrrLFromMemHL => Sys2Proof.Machine.execLdrrLFromMemHL s
  | .ldrrMemHLFromA => Sys2Proof.Machine.execLdrrMemHLFromA s
  | .ldrrMemHLFromB => Sys2Proof.Machine.execLdrrMemHLFromB s
  | .ldrrMemHLFromC => Sys2Proof.Machine.execLdrrMemHLFromC s
  | .ldrrMemHLFromD => Sys2Proof.Machine.execLdrrMemHLFromD s
  | .ldrrMemHLFromE => Sys2Proof.Machine.execLdrrMemHLFromE s
  | .ldrrMemHLFromH => Sys2Proof.Machine.execLdrrMemHLFromH s
  | .ldrrMemHLFromL => Sys2Proof.Machine.execLdrrMemHLFromL s
  | .ldrrMemHLFromMemHL => Sys2Proof.Machine.execLdrrMemHLFromMemHL s
  | .ldaFromA => Sys2Proof.Machine.execLdaFromA s
  | .ldaFromB => Sys2Proof.Machine.execLdaFromB s
  | .ldaFromC => Sys2Proof.Machine.execLdaFromC s
  | .ldaFromD => Sys2Proof.Machine.execLdaFromD s
  | .ldaFromE => Sys2Proof.Machine.execLdaFromE s
  | .ldaFromH => Sys2Proof.Machine.execLdaFromH s
  | .ldaFromL => Sys2Proof.Machine.execLdaFromL s
  | .ldaFromMemBC => Sys2Proof.Machine.execLdaFromMemBC s
  | .ldaFromMemDE => Sys2Proof.Machine.execLdaFromMemDE s
  | .ldaFromMemHL => Sys2Proof.Machine.execLdaFromMemHL s
  | .ldaFromAbs nn => Sys2Proof.Machine.execLdaFromAbs nn s
  | .ldaFromImm n => Sys2Proof.Machine.execLdaFromImm n s
  | .ldfaToA => Sys2Proof.Machine.execLdfaToA s
  | .ldfaToB => Sys2Proof.Machine.execLdfaToB s
  | .ldfaToC => Sys2Proof.Machine.execLdfaToC s
  | .ldfaToD => Sys2Proof.Machine.execLdfaToD s
  | .ldfaToE => Sys2Proof.Machine.execLdfaToE s
  | .ldfaToH => Sys2Proof.Machine.execLdfaToH s
  | .ldfaToL => Sys2Proof.Machine.execLdfaToL s
  | .ldfaToMemBC => Sys2Proof.Machine.execLdfaToMemBC s
  | .ldfaToMemDE => Sys2Proof.Machine.execLdfaToMemDE s
  | .ldfaToMemHL => Sys2Proof.Machine.execLdfaToMemHL s
  | .ldfaToAbs nn => Sys2Proof.Machine.execLdfaToAbs nn s
  | .pushBC => Sys2Proof.Machine.execPushBC s
  | .pushDE => Sys2Proof.Machine.execPushDE s
  | .pushHL => Sys2Proof.Machine.execPushHL s
  | .pushAF => Sys2Proof.Machine.execPushAF s
  | .popBC => Sys2Proof.Machine.execPopBC s
  | .popDE => Sys2Proof.Machine.execPopDE s
  | .popHL => Sys2Proof.Machine.execPopHL s
  | .popAF => Sys2Proof.Machine.execPopAF s
  | .addA => Sys2Proof.Machine.execAddA s
  | .addB => Sys2Proof.Machine.execAddB s
  | .addC => Sys2Proof.Machine.execAddC s
  | .addD => Sys2Proof.Machine.execAddD s
  | .addE => Sys2Proof.Machine.execAddE s
  | .addH => Sys2Proof.Machine.execAddH s
  | .addL => Sys2Proof.Machine.execAddL s
  | .addMemHL => Sys2Proof.Machine.execAddMemHL s
  | .addImm n => Sys2Proof.Machine.execAddImm n s
  | .adcA => Sys2Proof.Machine.execAdcA s
  | .adcB => Sys2Proof.Machine.execAdcB s
  | .adcC => Sys2Proof.Machine.execAdcC s
  | .adcD => Sys2Proof.Machine.execAdcD s
  | .adcE => Sys2Proof.Machine.execAdcE s
  | .adcH => Sys2Proof.Machine.execAdcH s
  | .adcL => Sys2Proof.Machine.execAdcL s
  | .adcMemHL => Sys2Proof.Machine.execAdcMemHL s
  | .adcImm n => Sys2Proof.Machine.execAdcImm n s
  | .subA => Sys2Proof.Machine.execSubA s
  | .subB => Sys2Proof.Machine.execSubB s
  | .subC => Sys2Proof.Machine.execSubC s
  | .subD => Sys2Proof.Machine.execSubD s
  | .subE => Sys2Proof.Machine.execSubE s
  | .subH => Sys2Proof.Machine.execSubH s
  | .subL => Sys2Proof.Machine.execSubL s
  | .subMemHL => Sys2Proof.Machine.execSubMemHL s
  | .subImm n => Sys2Proof.Machine.execSubImm n s
  | .sbcA => Sys2Proof.Machine.execSbcA s
  | .sbcB => Sys2Proof.Machine.execSbcB s
  | .sbcC => Sys2Proof.Machine.execSbcC s
  | .sbcD => Sys2Proof.Machine.execSbcD s
  | .sbcE => Sys2Proof.Machine.execSbcE s
  | .sbcH => Sys2Proof.Machine.execSbcH s
  | .sbcL => Sys2Proof.Machine.execSbcL s
  | .sbcMemHL => Sys2Proof.Machine.execSbcMemHL s
  | .sbcImm n => Sys2Proof.Machine.execSbcImm n s
  | .cpA => Sys2Proof.Machine.execCpA s
  | .cpB => Sys2Proof.Machine.execCpB s
  | .cpC => Sys2Proof.Machine.execCpC s
  | .cpD => Sys2Proof.Machine.execCpD s
  | .cpE => Sys2Proof.Machine.execCpE s
  | .cpH => Sys2Proof.Machine.execCpH s
  | .cpL => Sys2Proof.Machine.execCpL s
  | .cpMemHL => Sys2Proof.Machine.execCpMemHL s
  | .cpImm n => Sys2Proof.Machine.execCpImm n s
  | .incA => Sys2Proof.Machine.execIncA s
  | .incB => Sys2Proof.Machine.execIncB s
  | .incC => Sys2Proof.Machine.execIncC s
  | .incD => Sys2Proof.Machine.execIncD s
  | .incE => Sys2Proof.Machine.execIncE s
  | .incH => Sys2Proof.Machine.execIncH s
  | .incL => Sys2Proof.Machine.execIncL s
  | .incPairHL => Sys2Proof.Machine.execIncPairHL s
  | .andA => Sys2Proof.Machine.execAndA s
  | .andB => Sys2Proof.Machine.execAndB s
  | .andC => Sys2Proof.Machine.execAndC s
  | .andD => Sys2Proof.Machine.execAndD s
  | .andE => Sys2Proof.Machine.execAndE s
  | .andH => Sys2Proof.Machine.execAndH s
  | .andL => Sys2Proof.Machine.execAndL s
  | .andMemHL => Sys2Proof.Machine.execAndMemHL s
  | .andImm n => Sys2Proof.Machine.execAndImm n s
  | .orA => Sys2Proof.Machine.execOrA s
  | .orB => Sys2Proof.Machine.execOrB s
  | .orC => Sys2Proof.Machine.execOrC s
  | .orD => Sys2Proof.Machine.execOrD s
  | .orE => Sys2Proof.Machine.execOrE s
  | .orH => Sys2Proof.Machine.execOrH s
  | .orL => Sys2Proof.Machine.execOrL s
  | .orMemHL => Sys2Proof.Machine.execOrMemHL s
  | .orImm n => Sys2Proof.Machine.execOrImm n s
  | .xorA => Sys2Proof.Machine.execXorA s
  | .xorB => Sys2Proof.Machine.execXorB s
  | .xorC => Sys2Proof.Machine.execXorC s
  | .xorD => Sys2Proof.Machine.execXorD s
  | .xorE => Sys2Proof.Machine.execXorE s
  | .xorH => Sys2Proof.Machine.execXorH s
  | .xorL => Sys2Proof.Machine.execXorL s
  | .xorMemHL => Sys2Proof.Machine.execXorMemHL s
  | .xorImm n => Sys2Proof.Machine.execXorImm n s
  | .add16BC => Sys2Proof.Machine.execAdd16BC s
  | .add16DE => Sys2Proof.Machine.execAdd16DE s
  | .add16HL => Sys2Proof.Machine.execAdd16HL s
  | .add16SP => Sys2Proof.Machine.execAdd16SP s

end Sys2Proof.Machine
end

