-- ==== Sys2Proof/Machine/HostPort.lean ====
section
/-! DEFINITION. The host's side of the block: the register-write port (spec/11_interfaces.md R56, R57), the observation port
(R55), the block states and their handshakes (R59), and the host's stores into its own memory (R58). -/

namespace Sys2Proof.Machine

/-- The effect of an accepted host write, by `hw_sel` (R57). Selectors 14 and 15 have no effect. -/
def State.hostWrite (s : State) (w : HostWrite) : State :=
  match w.sel.toNat with
  | 0 => { s with a := loByte w.data }
  | 1 => { s with b := loByte w.data }
  | 2 => { s with c := loByte w.data }
  | 3 => { s with d := loByte w.data }
  | 4 => { s with e := loByte w.data }
  | 5 => { s with h := loByte w.data }
  | 6 => { s with l := loByte w.data }
  | 7 => { s with f := fLow s.cfg.fLow (loByte w.data) }
  | 8 => s.setPair .BC w.data
  | 9 => s.setPair .DE w.data
  | 10 => s.setPair .HL w.data
  | 11 => s.setAf w.data
  | 12 => { s with sp := w.data }
  | 13 => { s with pc := w.data }
  | _ => s

/-- The block states a model shows: BUSY has no architectural content (R59). -/
inductive BlockState
  | idle
  | faulted
  deriving DecidableEq, Repr

/-- IDLE or FAULTED, by the latch (R59). -/
def State.blockState (s : State) : BlockState :=
  if s.fault.valid then .faulted else .idle

/-- `exec_ready`: 1 exactly when the block is IDLE (R52). -/
def State.execReady (s : State) : Bool :=
  s.blockState == .idle

/-- `hw_ready`: 1 exactly when the block is IDLE and no word is being accepted in the same instant (R56). -/
def State.hwReady (s : State) (p : PortInput) : Bool :=
  s.blockState == .idle && p.exec.isNone

/-- What the observation port shows (R50, R55). -/
structure Observation where
  obsA : U8
  obsB : U8
  obsC : U8
  obsD : U8
  obsE : U8
  obsH : U8
  obsL : U8
  obsF : U8
  obsSp : U16
  obsPc : U16
  faultValid : Bool
  faultCode : BitVec 2
  faultAddr : U16
  faultWord : Di32
  deriving DecidableEq, Repr

/-- The observation port of an IDLE or FAULTED block: the architectural state, read without effect (R55). -/
def State.observe (s : State) : Observation :=
  { obsA := s.a, obsB := s.b, obsC := s.c, obsD := s.d, obsE := s.e, obsH := s.h, obsL := s.l, obsF := s.f
    obsSp := s.sp, obsPc := s.pc
    faultValid := s.fault.valid, faultCode := s.fault.code, faultAddr := s.fault.addr, faultWord := s.fault.word }

/-- The host stores a byte into its own buffer between steps (R58); outside the buffer there is no byte (log 8). -/
def hostStore (a : U16) (v : U8) (s : State) : Result :=
  if s.validAddr a then
    .next { s.quiet with mem := Memory.write s.mem a.toNat v }
  else .refused (.hostStoreOutsideBuffer a)

end Sys2Proof.Machine
end

