-- ==== Sys2Proof/Machine/Engine.lean ====
section
/-! DEFINITION. What the block does with each thing the host can do to it: a presented word (spec/11_interfaces.md R52, R53),
an instant at the ports (R50, R51, R56, R59), a reset in mid-step (spec/70_reset_and_hazards.md R293). -/

namespace Sys2Proof.Machine

/-- One step of an accepted word: an illegal word raises InvariantViolation before anything else, a legal one is executed
(spec/60_exceptions.md R262, R266). -/
def executeWord (w : Di32) (s : State) : Result :=
  match decode w with
  | .ok i => exec i s
  | .error _ => .next (s.takeFault .invariantViolation 0 w)

/-- Why a FAULTED block stands still (spec/60_exceptions.md R260, R265). -/
def State.stopReason (s : State) : Fault :=
  if s.fault.code = Cause.code .memOutOfRange then .memOutOfRange s.fault.addr s.fault.word
  else .invariantViolation s.fault.word

/-- An instant in which nothing is presented: an IDLE block holds its state (spec/60_exceptions.md R278), a FAULTED one is
stopped (spec/11_interfaces.md R59; log 5). -/
def idleInstant (s : State) : Result :=
  if s.execReady then .next s.quiet else .fault s.stopReason

/-- One instant at the ports: reset first (R51), then a word when `exec_ready`, then a host write when `hw_ready` (R52, R56;
log 7); in FAULTED nothing but reset is accepted (R59; log 5). -/
def portInstant (p : PortInput) (s : State) : Result :=
  if p.rst then .next s.resetBlock
  else
    match p.exec with
    | some w => if s.execReady then executeWord w s else .fault s.stopReason
    | none =>
      match p.hostWrite with
      | some hw => if s.hwReady p then .next (s.quiet.hostWrite hw) else .fault s.stopReason
      | none => idleInstant s

/-- The effect of an access on memory. -/
def Access.apply (m : Memory) : Access → Memory
  | .read _ _ => m
  | .write a v => Memory.write m a.toNat v

/-- The accesses an accepted word makes; none when it is not accepted or faults. -/
def wordAccesses (w : Di32) (s : State) : List Access :=
  if s.execReady then
    match executeWord w s with
    | .next t => t.out.accesses
    | .fault _ => []
    | .refused _ => []
  else []

/-- Reset when a step has made its first `made` accesses: the registers take their reset values, the bytes already written
stay written (spec/70_reset_and_hazards.md R293; log 9). -/
def abandonedStep (w : Di32) (made : Nat) (s : State) : State :=
  let seen := (wordAccesses w s).take made
  { s.resetBlock with mem := seen.foldl Access.apply s.mem, out := { execDone := false, accesses := seen } }

/-- A word presented alone on the instruction port. -/
def presentWord (w : Di32) : Input :=
  .ports { rst := false, exec := some w, hostWrite := none }

/-- The host's next action, carried out on the state that has the later ones still to come. -/
def performInput (x : Input) (s : State) : Result :=
  match x with
  | .ports p => portInstant p s
  | .memory a v => hostStore a v s
  | .abandoned w made => .next (abandonedStep w made s)

end Sys2Proof.Machine
end

