-- ==== Sys2Proof/Machine/Step.lean ====
section
/-! DEFINITION. One step of the machine: the next thing the host does, or an idle instant (log 3). The block fetches nothing
(spec/20_memory.md R88): its instruction is the word the host presents (spec/11_interfaces.md R52). -/

namespace Sys2Proof.Machine

def step (s : State) : Host.Outcome State Fault Refusal :=
  match s.inputs with
  | [] => idleInstant s
  | x :: rest => performInput x { s with inputs := rest }

/-- The state with an instruction's word, its `nbits` bits as a number, presented to the block next (log 3, log 12). -/
def State.withFetchWord (s : State) (nbits w : Nat) : State :=
  { s with inputs := presentWord (BitVec.ofNat 32 (w % 2 ^ nbits)) :: s.inputs }

end Sys2Proof.Machine
end

