-- ==== Sys2Proof/Safety.lean ====
section
/-! DEFINITION. What counts as a good state and as a finished run: the invariant of the machine, and the runs of
spec/70_reset_and_hazards.md R296, completed or faulted and never both. -/

namespace Sys2Proof.Machine

/-- What the latch may hold (spec/10_state.md R36, spec/60_exceptions.md R260, R263): clear and all zero, or one of the two
faults with what it records: an address out of range and the legal word that formed it, or an illegal word and address 0. -/
def FaultLatch.wf (memSize : Nat) (latch : FaultLatch) : Prop :=
  if latch.valid then
    (latch.code = 1 ∧ memSize ≤ latch.addr.toNat ∧ ∃ i, decode latch.word = .ok i) ∨
      (latch.code = 2 ∧ latch.addr = 0 ∧ ∃ why, decode latch.word = .error why)
  else latch = FaultLatch.none

/-- The invariant of the machine: memory canonical and inside its buffer, legal parameters, a latch a fault can leave. -/
structure State.Inv (s : State) : Prop where
  memCanonical : Memory.wf s.mem = true
  memInBuffer : Memory.fits s.cfg.memSize s.mem = true
  params : s.cfg.wf = true
  latch : s.fault.wf s.cfg.memSize

/-- A state a successful run may end in: a FAULTED state is never one (spec/11_interfaces.md R59). -/
def State.safe (s : State) : Prop :=
  s.fault.valid = false

/-- How a run ends (R296). -/
inductive RunEnd
  /-- The last word has completed. -/
  | completed (s : State)
  /-- A word raised a fault: the state before it, with the latch. -/
  | faulted (s : State)
  deriving DecidableEq, Repr

/-- The run of a program, a list of words presented in order, from a state (R296). -/
def runProgram : List Di32 → State → RunEnd
  | [], s => .completed s
  | w :: ws, s =>
    match executeWord w s with
    | .next t => if t.fault.valid then .faulted t else runProgram ws t
    | .fault _ => .faulted s
    | .refused _ => .faulted s

/-- The state with a program listed as the host's next actions. -/
def State.withProgram (s : State) (ws : List Di32) : State :=
  { s with inputs := ws.map presentWord }

end Sys2Proof.Machine
end

