-- ==== Sys2Proof/Certificates/Slice0/Obligations.lean ====
section
/-! DEFINITION. The statements for the provers, from the numbered rules of spec/, and the predicates they are written with. -/

namespace Sys2Proof.Claims

open Sys2Proof Sys2Proof.Machine

/-! ## The vocabulary of the statements -/

/-- The number of a register-direct selector (spec/30_encoding.md R104). -/
def regNumber : Reg → Di32
  | .A => 1
  | .B => 2
  | .C => 3
  | .D => 4
  | .E => 5
  | .H => 6
  | .L => 7

/-- The number of a pair-indirect selector (R104). -/
def indNumber : Pair → Di32
  | .HL => 8
  | .BC => 9
  | .DE => 10

/-- The number of a pair-direct selector (R104). -/
def pairNumber : Pair → Di32
  | .BC => 16
  | .DE => 17
  | .HL => 18

/-- The byte at an index of a state's memory. -/
def byteAt (s : State) (a : Nat) : U8 :=
  Memory.read s.mem a

/-- Everything an instruction that completes leaves alone, but F and SP, which each statement names: every general register
outside `regs`, every byte of memory outside `stored`, PC, the latch, the parameters, the host's list (spec/10_state.md
R41). -/
def Frame (s t : State) (regs : List Reg) (stored : List Nat) : Prop :=
  (∀ r, r ∉ regs → t.reg r = s.reg r) ∧ (∀ a, a ∉ stored → byteAt t a = byteAt s a) ∧
    t.pc = s.pc ∧ t.fault = s.fault ∧ t.cfg = s.cfg ∧ t.inputs = s.inputs

/-- The step completed: `exec_done` pulsed, and these accesses were made, in this order (spec/11_interfaces.md R53, R54). -/
def Completed (t : State) (accesses : List Access) : Prop :=
  t.out = { execDone := true, accesses := accesses }

/-- The state a fault leaves: the latch set, nothing else changed, no access and no `exec_done` (spec/60_exceptions.md
R263, R264). -/
def faultedState (s : State) (code : BitVec 2) (addr : U16) (word : Di32) : State :=
  { s with fault := { valid := true, code := code, addr := addr, word := word },
           out := { execDone := false, accesses := [] } }

/-- The step took MemOutOfRange at an address (code 1), recording the word (R260, R263). -/
def OutOfRange (r : Result) (s : State) (addr : U16) (word : Di32) : Prop :=
  r = .next (faultedState s 1 addr word)

/-- F holds exactly these four flags, and zero in bits 3 to 0: the value `flags(z, n, h, c)` (spec/00_scope.md R9). -/
def IsFlags (f : U8) (z n h c : Prop) : Prop :=
  (f.getLsbD 7 = true ↔ z) ∧ (f.getLsbD 6 = true ↔ n) ∧ (f.getLsbD 5 = true ↔ h) ∧ (f.getLsbD 4 = true ↔ c) ∧
    f.toNat % 16 = 0

/-- `Add8(a, v, cin)` gives result `r` and flags `f` (R11), on unbounded naturals. -/
def AddGives (a v : U8) (cin : Bool) (r f : U8) : Prop :=
  r.toNat = (a.toNat + v.toNat + cin.toNat) % 256 ∧
    IsFlags f (r.toNat = 0) False (a.toNat % 16 + v.toNat % 16 + cin.toNat > 15) (a.toNat + v.toNat + cin.toNat > 255)

/-- `Sub8(a, v, bin)` gives result `r` and flags `f` (R11), on unbounded integers. -/
def SubGives (a v : U8) (bin : Bool) (r f : U8) : Prop :=
  (r.toNat : Int) = ((a.toNat : Int) - v.toNat - bin.toNat) % 256 ∧
    IsFlags f (r.toNat = 0) True (a.toNat % 16 < v.toNat % 16 + bin.toNat) (a.toNat < v.toNat + bin.toNat)

/-- The three operand forms of an eight-bit ALU family (spec/42_alu8_arith.md R180, spec/44_logic.md R230), with their words,
their completion and their one fault. `effect v t` says what the family leaves in `t` for the operand value `v`. -/
def AluForms (s : State) (reg : Reg → Instr) (mem : Instr) (imm : U8 → Instr) (base : Di32) (effect : U8 → State → Prop) :
    Prop :=
  (∀ r, encode (reg r) = base + regNumber r * 0x10000#32 ∧
    ∃ t, exec (reg r) s = .next t ∧ effect (s.reg r) t ∧ Completed t []) ∧
  (encode mem = base + 0x80000#32 ∧
    ((s.pair .HL).toNat < s.cfg.memSize →
      ∃ t, exec mem s = .next t ∧ effect (byteAt s (s.pair .HL).toNat) t ∧
        Completed t [.read (s.pair .HL) (byteAt s (s.pair .HL).toNat)]) ∧
    (s.cfg.memSize ≤ (s.pair .HL).toNat → OutOfRange (exec mem s) s (s.pair .HL) (encode mem))) ∧
  (∀ n : U8, encode (imm n) = base + 0xC0000#32 + n.setWidth 32 ∧
    ∃ t, exec (imm n) s = .next t ∧ effect n t ∧ Completed t [])

/-- A push of the bytes `hi` and `lo`: its word, its two stores, its two faults (spec/41_stack.md R171). -/
def PushForm (s : State) (i : Instr) (word : Di32) (hi lo : U8) : Prop :=
  encode i = word ∧
  (s.sp.toNat < s.cfg.memSize → (s.sp - 1).toNat < s.cfg.memSize →
    ∃ t, exec i s = .next t ∧ t.sp = s.sp - 2 ∧ t.f = s.f ∧
      byteAt t s.sp.toNat = hi ∧ byteAt t (s.sp - 1).toNat = lo ∧
      Frame s t [] [s.sp.toNat, (s.sp - 1).toNat] ∧ Completed t [.write s.sp hi, .write (s.sp - 1) lo]) ∧
  (s.cfg.memSize ≤ s.sp.toNat → OutOfRange (exec i s) s s.sp word) ∧
  (s.sp.toNat < s.cfg.memSize → s.cfg.memSize ≤ (s.sp - 1).toNat → OutOfRange (exec i s) s (s.sp - 1) word)

/-- A pop: its word, its two reads, its two faults; `effect lo hi t` says what the bytes are written back to
(spec/41_stack.md R173, R174). -/
def PopForm (s : State) (i : Instr) (word : Di32) (effect : U8 → U8 → State → Prop) : Prop :=
  encode i = word ∧
  ((s.sp + 1).toNat < s.cfg.memSize → (s.sp + 2).toNat < s.cfg.memSize →
    ∃ t, exec i s = .next t ∧ t.sp = s.sp + 2 ∧
      effect (byteAt s (s.sp + 1).toNat) (byteAt s (s.sp + 2).toNat) t ∧
      Completed t [.read (s.sp + 1) (byteAt s (s.sp + 1).toNat), .read (s.sp + 2) (byteAt s (s.sp + 2).toNat)]) ∧
  (s.cfg.memSize ≤ (s.sp + 1).toNat → OutOfRange (exec i s) s (s.sp + 1) word) ∧
  ((s.sp + 1).toNat < s.cfg.memSize → s.cfg.memSize ≤ (s.sp + 2).toNat → OutOfRange (exec i s) s (s.sp + 2) word)

/-- The addresses of an operand slot. -/
def slotAddrs (t : Tagged) (s : State) : Selector → List U16
  | .ind p => [s.pair p]
  | .abs => [t.k]
  | .none | .reg _ | .imm | .pair _ | .sp | .af => []

/-- The accesses of a form in order, `true` for a write, from the tags alone: the table of spec/20_memory.md R82, which is
also the list of addresses checked of spec/60_exceptions.md R261. -/
def accessTable (t : Tagged) (s : State) : List (Bool × U16) :=
  match t.family with
  | .push => [(true, s.sp), (true, s.sp - 1)]
  | .pop => [(false, s.sp + 1), (false, s.sp + 2)]
  | .ldn | .ldrr | .lda | .ldfa | .add | .adc | .sub | .sbc | .cp | .inc | .and | .or | .xor | .add16 =>
    (slotAddrs t s t.y).map (false, ·) ++ (slotAddrs t s t.x).map (true, ·)

/-- An access as the table lists it. -/
def accessKind : Access → Bool × U16
  | .read a _ => (false, a)
  | .write a _ => (true, a)

/-- The families that compute flags: every ALU family, INC and ADD16 (spec/10_state.md R30). -/
def computesFlags : Family → Bool
  | .add | .adc | .sub | .sbc | .cp | .inc | .and | .or | .xor | .add16 => true
  | .ldn | .ldrr | .lda | .ldfa | .push | .pop => false

/-- The forms that store to memory (R41). -/
def storesToMemory (t : Tagged) : Bool :=
  match t.family with
  | .push => true
  | .ldrr => t.x == .ind .HL
  | .ldfa => t.x.isInd || t.x == .abs
  | .ldn | .lda | .pop | .add | .adc | .sub | .sbc | .cp | .inc | .and | .or | .xor | .add16 => false

/-- The forms whose effect depends on F: ADC, SBC, ADD16 and PUSH(AF) (spec/10_state.md R31). -/
def readsF (t : Tagged) : Bool :=
  match t.family with
  | .adc | .sbc | .add16 => true
  | .push => t.y == .af
  | .ldn | .ldrr | .lda | .ldfa | .pop | .add | .sub | .cp | .inc | .and | .or | .xor => false

/-- The 8-bit source operand of a form with one, from its Y slot (spec/30_encoding.md R105). -/
def sourceValue (t : Tagged) (s : State) : U8 :=
  match t.y with
  | .reg r => s.reg r
  | .ind p => byteAt s (s.pair p).toNat
  | .abs => byteAt s t.k.toNat
  | .imm => t.k.setWidth 8
  | .none | .pair _ | .sp | .af => 0

/-- Everything the observation port shows is zero (spec/10_state.md R39). -/
def AllZero (s : State) : Prop :=
  (∀ r, s.reg r = 0) ∧ s.f = 0 ∧ s.sp = 0 ∧ s.pc = 0 ∧
    s.fault = { valid := false, code := 0, addr := 0, word := 0 }

/-- The next input asserts reset: at the ports, or in mid-step. -/
def AssertsReset : Input → Prop
  | .ports p => p.rst = true
  | .abandoned _ _ => True
  | .memory _ _ => False

end Sys2Proof.Claims

open Sys2Proof Sys2Proof.Machine Sys2Proof.Claims

/-! ## Encoding -/

/-- R110: `Decode(Encode(i)) = i` for every legal form, with every operand value. -/
def Obligations.DecodeOfEncodeIsTheInstruction : Prop :=
  ∀ i : Instr, i.wellFormed = true → decode (encode i) = .ok i

/-- R110: `Encode(Decode(w)) = w` for every legal word: no bit of a word is dropped. -/
def Obligations.EncodeOfDecodeIsTheWord : Prop :=
  ∀ (w : Di32) (i : Instr), decode w = .ok i → encode i = w

/-- R109: the words the decoder takes are exactly those that select a row of spec/opcode_table.json. -/
def Obligations.LegalWordsAreTheOpcodeTable : Prop :=
  ∀ w : Di32, (∃ i, decode w = .ok i) ↔ ∃ row ∈ opcodeTable, row.selects w = true

/-- R109: no two rows of the opcode table overlap. -/
def Obligations.NoWordSelectsTwoOpcodeRows : Prop :=
  ∀ (w : Di32) (m n : Nat) (row row' : OpcodeRow), opcodeTable[m]? = some row → opcodeTable[n]? = some row' →
    row.selects w = true → row'.selects w = true → m = n

/-- R111: the twelve worked encodings, both ways. -/
def Obligations.WorkedEncodings : Prop :=
  ∀ x ∈ [(Instr.ldnL 0x12, 0x04EC0012#32), (.ldnPairBC 0xFF, 0x060C00FF#32), (.ldrrBFromMemHL, 0x08480000#32),
      (.ldaFromAbs 0xC000, 0x0C0BC000#32), (.ldfaToMemDE, 0x11400000#32), (.pushBC, 0x14100000#32),
      (.popAF, 0x1A800000#32), (.addImm 5, 0x1C0C0005#32), (.cpMemHL, 0x2C080000#32), (.incPairHL, 0x32400000#32),
      (.xorA, 0x3C010000#32), (.add16SP, 0x40130000#32)],
    encode x.1 = x.2 ∧ decode x.2 = .ok x.1

/-! ## Loads -/

/-- R131: `LDN(r, #n)` for the seven registers (`ldnA` to `ldnL`). -/
def Obligations.LdnRegisterLoadsImmediate : Prop :=
  ∀ (r : Reg) (n : U8) (s : State),
    encode (.ldnReg r n) = 0x040C0000#32 + regNumber r * 0x200000#32 + n.setWidth 32 ∧
    ∃ t, exec (.ldnReg r n) s = .next t ∧ t.reg r = n ∧ t.f = s.f ∧ t.sp = s.sp ∧ Frame s t [r] [] ∧ Completed t []

/-- R132: `LDN(p, #n)` for BC, DE, HL (`ldnPairBC`, `ldnPairDE`, `ldnPairHL`): the high register is cleared. -/
def Obligations.LdnPairLoadsZeroExtendedImmediate : Prop :=
  ∀ (p : Pair) (n : U8) (s : State),
    encode (.ldnPair p n) = 0x040C0000#32 + pairNumber p * 0x200000#32 + n.setWidth 32 ∧
    ∃ t, exec (.ldnPair p n) s = .next t ∧ t.reg (pairHi p) = 0 ∧ t.reg (pairLo p) = n ∧
      (t.pair p).toNat = n.toNat ∧ t.f = s.f ∧ t.sp = s.sp ∧ Frame s t [pairHi p, pairLo p] [] ∧ Completed t []

/-- R135: `LDRR(target, source)` for every two registers, the same one twice included (`ldrrAFromA` to `ldrrLFromL`). -/
def Obligations.LdrrCopiesRegisterToRegister : Prop :=
  ∀ (target source : Reg) (s : State),
    encode (.ldrrRegReg target source) = 0x08000000#32 + regNumber target * 0x200000#32 + regNumber source * 0x10000#32 ∧
    ∃ t, exec (.ldrrRegReg target source) s = .next t ∧ t.reg target = s.reg source ∧ t.f = s.f ∧ t.sp = s.sp ∧
      Frame s t [target] [] ∧ Completed t []

/-- R136: `LDRR(r, (HL))` (`ldrrAFromMemHL` to `ldrrLFromMemHL`): the address is formed from the old H and L. -/
def Obligations.LdrrLoadsRegisterFromMemory : Prop :=
  ∀ (r : Reg) (s : State),
    encode (.ldrrRegMem r) = 0x08080000#32 + regNumber r * 0x200000#32 ∧
    ((s.pair .HL).toNat < s.cfg.memSize →
      ∃ t, exec (.ldrrRegMem r) s = .next t ∧ t.reg r = byteAt s (s.pair .HL).toNat ∧ t.f = s.f ∧ t.sp = s.sp ∧
        Frame s t [r] [] ∧ Completed t [.read (s.pair .HL) (byteAt s (s.pair .HL).toNat)]) ∧
    (s.cfg.memSize ≤ (s.pair .HL).toNat →
      OutOfRange (exec (.ldrrRegMem r) s) s (s.pair .HL) (encode (.ldrrRegMem r)))

/-- R137: `LDRR((HL), r)` (`ldrrMemHLFromA` to `ldrrMemHLFromL`). -/
def Obligations.LdrrStoresRegisterToMemory : Prop :=
  ∀ (r : Reg) (s : State),
    encode (.ldrrMemReg r) = 0x09000000#32 + regNumber r * 0x10000#32 ∧
    ((s.pair .HL).toNat < s.cfg.memSize →
      ∃ t, exec (.ldrrMemReg r) s = .next t ∧ byteAt t (s.pair .HL).toNat = s.reg r ∧ t.f = s.f ∧ t.sp = s.sp ∧
        Frame s t [] [(s.pair .HL).toNat] ∧ Completed t [.write (s.pair .HL) (s.reg r)]) ∧
    (s.cfg.memSize ≤ (s.pair .HL).toNat →
      OutOfRange (exec (.ldrrMemReg r) s) s (s.pair .HL) (encode (.ldrrMemReg r)))

/-- R138: `LDRR((HL), (HL))` (`ldrrMemHLFromMemHL`): one read, one write of the same byte, no register and no byte
changed. -/
def Obligations.LdrrRewritesMemoryByte : Prop :=
  ∀ s : State,
    encode .ldrrMemHLFromMemHL = 0x09080000#32 ∧
    ((s.pair .HL).toNat < s.cfg.memSize →
      ∃ t, exec .ldrrMemHLFromMemHL s = .next t ∧ t.f = s.f ∧ t.sp = s.sp ∧ Frame s t [] [] ∧
        Completed t [.read (s.pair .HL) (byteAt s (s.pair .HL).toNat),
          .write (s.pair .HL) (byteAt s (s.pair .HL).toNat)]) ∧
    (s.cfg.memSize ≤ (s.pair .HL).toNat → OutOfRange (exec .ldrrMemHLFromMemHL s) s (s.pair .HL) 0x09080000#32)

/-- R141: `LDA(r)` (`ldaFromA` to `ldaFromL`). -/
def Obligations.LdaLoadsAccumulatorFromRegister : Prop :=
  ∀ (r : Reg) (s : State),
    encode (.ldaReg r) = 0x0C000000#32 + regNumber r * 0x10000#32 ∧
    ∃ t, exec (.ldaReg r) s = .next t ∧ t.a = s.reg r ∧ t.f = s.f ∧ t.sp = s.sp ∧ Frame s t [.A] [] ∧ Completed t []

/-- R142: `LDA((p))` (`ldaFromMemBC`, `ldaFromMemDE`, `ldaFromMemHL`). -/
def Obligations.LdaLoadsAccumulatorThroughPair : Prop :=
  ∀ (p : Pair) (s : State),
    encode (.ldaInd p) = 0x0C000000#32 + indNumber p * 0x10000#32 ∧
    ((s.pair p).toNat < s.cfg.memSize →
      ∃ t, exec (.ldaInd p) s = .next t ∧ t.a = byteAt s (s.pair p).toNat ∧ t.f = s.f ∧ t.sp = s.sp ∧
        Frame s t [.A] [] ∧ Completed t [.read (s.pair p) (byteAt s (s.pair p).toNat)]) ∧
    (s.cfg.memSize ≤ (s.pair p).toNat → OutOfRange (exec (.ldaInd p) s) s (s.pair p) (encode (.ldaInd p)))

/-- R143: `LDA((nn))` (`ldaFromAbs`). -/
def Obligations.LdaLoadsAccumulatorFromAbsoluteAddress : Prop :=
  ∀ (nn : U16) (s : State),
    encode (.ldaFromAbs nn) = 0x0C0B0000#32 + nn.setWidth 32 ∧
    (nn.toNat < s.cfg.memSize →
      ∃ t, exec (.ldaFromAbs nn) s = .next t ∧ t.a = byteAt s nn.toNat ∧ t.f = s.f ∧ t.sp = s.sp ∧ Frame s t [.A] [] ∧
        Completed t [.read nn (byteAt s nn.toNat)]) ∧
    (s.cfg.memSize ≤ nn.toNat → OutOfRange (exec (.ldaFromAbs nn) s) s nn (encode (.ldaFromAbs nn)))

/-- R144: `LDA(#n)` (`ldaFromImm`). -/
def Obligations.LdaLoadsAccumulatorImmediate : Prop :=
  ∀ (n : U8) (s : State),
    encode (.ldaFromImm n) = 0x0C0C0000#32 + n.setWidth 32 ∧
    ∃ t, exec (.ldaFromImm n) s = .next t ∧ t.a = n ∧ t.f = s.f ∧ t.sp = s.sp ∧ Frame s t [.A] [] ∧ Completed t []

/-- R146: `LDFA(r)` (`ldfaToA` to `ldfaToL`). -/
def Obligations.LdfaStoresAccumulatorToRegister : Prop :=
  ∀ (r : Reg) (s : State),
    encode (.ldfaReg r) = 0x10000000#32 + regNumber r * 0x200000#32 ∧
    ∃ t, exec (.ldfaReg r) s = .next t ∧ t.reg r = s.a ∧ t.f = s.f ∧ t.sp = s.sp ∧ Frame s t [r] [] ∧ Completed t []

/-- R147: `LDFA((p))` (`ldfaToMemBC`, `ldfaToMemDE`, `ldfaToMemHL`). -/
def Obligations.LdfaStoresAccumulatorThroughPair : Prop :=
  ∀ (p : Pair) (s : State),
    encode (.ldfaInd p) = 0x10000000#32 + indNumber p * 0x200000#32 ∧
    ((s.pair p).toNat < s.cfg.memSize →
      ∃ t, exec (.ldfaInd p) s = .next t ∧ byteAt t (s.pair p).toNat = s.a ∧ t.f = s.f ∧ t.sp = s.sp ∧
        Frame s t [] [(s.pair p).toNat] ∧ Completed t [.write (s.pair p) s.a]) ∧
    (s.cfg.memSize ≤ (s.pair p).toNat → OutOfRange (exec (.ldfaInd p) s) s (s.pair p) (encode (.ldfaInd p)))

/-- R148: `LDFA((nn))` (`ldfaToAbs`). -/
def Obligations.LdfaStoresAccumulatorToAbsoluteAddress : Prop :=
  ∀ (nn : U16) (s : State),
    encode (.ldfaToAbs nn) = 0x11600000#32 + nn.setWidth 32 ∧
    (nn.toNat < s.cfg.memSize →
      ∃ t, exec (.ldfaToAbs nn) s = .next t ∧ byteAt t nn.toNat = s.a ∧ t.f = s.f ∧ t.sp = s.sp ∧
        Frame s t [] [nn.toNat] ∧ Completed t [.write nn s.a]) ∧
    (s.cfg.memSize ≤ nn.toNat → OutOfRange (exec (.ldfaToAbs nn) s) s nn (encode (.ldfaToAbs nn)))

/-! ## Stack -/

/-- R171: `PUSH(p)` (`pushBC`, `pushDE`, `pushHL`, `pushAF`). -/
def Obligations.PushStoresPairBelowStackPointer : Prop :=
  ∀ s : State,
    (∀ p, PushForm s (.pushPair p) (0x14000000#32 + pairNumber p * 0x10000#32) (s.reg (pairHi p)) (s.reg (pairLo p))) ∧
    PushForm s .pushAF 0x14140000#32 s.a s.f

/-- R173: `POP(p)` (`popBC`, `popDE`, `popHL`): the pair is written back. -/
def Obligations.PopLoadsPairAboveStackPointer : Prop :=
  ∀ (s : State) (p : Pair),
    PopForm s (.popPair p) (0x18000000#32 + pairNumber p * 0x200000#32) fun lo hi t =>
      t.reg (pairHi p) = hi ∧ t.reg (pairLo p) = lo ∧ t.f = s.f ∧ Frame s t [pairHi p, pairLo p] []

/-- R174: `POP(AF)` (`popAF`): F takes the popped low byte, its low nibble by `F_LOW_POLICY`. -/
def Obligations.PopAfLoadsAccumulatorAndFlags : Prop :=
  ∀ s : State,
    PopForm s .popAF 0x1A800000#32 fun lo hi t =>
      t.a = hi ∧ (s.cfg.fLow = .retain → t.f = lo) ∧
      (s.cfg.fLow = .clear → t.f.toNat = lo.toNat - lo.toNat % 16) ∧ Frame s t [.A] []

/-- R175: a push, anything that leaves SP and the two bytes as the push left them, and a pop of any pair: the pair popped
holds the pair pushed and SP is back; for AF in bits 15 to 4 under either policy and in all bits under `retain`. -/
def Obligations.PushThenPopRestores : Prop :=
  ∀ (s t u : State), s.sp.toNat < s.cfg.memSize → (s.sp - 1).toNat < s.cfg.memSize → u.cfg = s.cfg → u.sp = t.sp →
    byteAt u s.sp.toNat = byteAt t s.sp.toNat → byteAt u (s.sp - 1).toNat = byteAt t (s.sp - 1).toNat →
    (∀ p q, exec (.pushPair p) s = .next t → ∃ z, exec (.popPair q) u = .next z ∧ z.pair q = s.pair p ∧ z.sp = s.sp) ∧
    (exec .pushAF s = .next t → ∃ z, exec .popAF u = .next z ∧ z.sp = s.sp ∧
      z.af &&& 0xFFF0#16 = s.af &&& 0xFFF0#16 ∧ (s.cfg.fLow = .retain → z.af = s.af))

/-! ## Eight-bit arithmetic and logic -/

/-- R181, R184 to R186: ADD (`addA` to `addL`, `addMemHL`, `addImm`). -/
def Obligations.AddAddsOperandToAccumulator : Prop :=
  ∀ s : State, AluForms s .addReg .addMemHL .addImm 0x1C000000#32 fun v t =>
    AddGives s.a v false t.a t.f ∧ t.sp = s.sp ∧ Frame s t [.A] []

/-- R187 to R190: ADC (`adcA` to `adcL`, `adcMemHL`, `adcImm`): the carry-in is the old F.C. -/
def Obligations.AdcAddsOperandAndCarryToAccumulator : Prop :=
  ∀ s : State, AluForms s .adcReg .adcMemHL .adcImm 0x20000000#32 fun v t =>
    AddGives s.a v (s.f.getLsbD 4) t.a t.f ∧ t.sp = s.sp ∧ Frame s t [.A] []

/-- R191 to R194: SUB (`subA` to `subL`, `subMemHL`, `subImm`). -/
def Obligations.SubSubtractsOperandFromAccumulator : Prop :=
  ∀ s : State, AluForms s .subReg .subMemHL .subImm 0x24000000#32 fun v t =>
    SubGives s.a v false t.a t.f ∧ t.sp = s.sp ∧ Frame s t [.A] []

/-- R195 to R198: SBC (`sbcA` to `sbcL`, `sbcMemHL`, `sbcImm`): the borrow-in is the old F.C. -/
def Obligations.SbcSubtractsOperandAndCarryFromAccumulator : Prop :=
  ∀ s : State, AluForms s .sbcReg .sbcMemHL .sbcImm 0x28000000#32 fun v t =>
    SubGives s.a v (s.f.getLsbD 4) t.a t.f ∧ t.sp = s.sp ∧ Frame s t [.A] []

/-- R199 to R202: CP (`cpA` to `cpL`, `cpMemHL`, `cpImm`): the flags SUB of the same operand would have produced, no
register changed. -/
def Obligations.CpSetsSubFlagsAndKeepsAccumulator : Prop :=
  ∀ s : State, AluForms s .cpReg .cpMemHL .cpImm 0x2C000000#32 fun v t =>
    (∃ r, SubGives s.a v false r t.f) ∧ t.sp = s.sp ∧ Frame s t [] []

/-- R230, R232 to R234: AND (`andA` to `andL`, `andMemHL`, `andImm`): H always set. -/
def Obligations.AndMasksAccumulator : Prop :=
  ∀ s : State, AluForms s .andReg .andMemHL .andImm 0x34000000#32 fun v t =>
    t.a = s.a &&& v ∧ IsFlags t.f (t.a = 0) False True False ∧ t.sp = s.sp ∧ Frame s t [.A] []

/-- R230, R236 to R238: OR (`orA` to `orL`, `orMemHL`, `orImm`). -/
def Obligations.OrSetsBitsOfAccumulator : Prop :=
  ∀ s : State, AluForms s .orReg .orMemHL .orImm 0x38000000#32 fun v t =>
    t.a = s.a ||| v ∧ IsFlags t.f (t.a = 0) False False False ∧ t.sp = s.sp ∧ Frame s t [.A] []

/-- R230, R240 to R242: XOR (`xorA` to `xorL`, `xorMemHL`, `xorImm`). -/
def Obligations.XorTogglesBitsOfAccumulator : Prop :=
  ∀ s : State, AluForms s .xorReg .xorMemHL .xorImm 0x3C000000#32 fun v t =>
    t.a = s.a ^^^ v ∧ IsFlags t.f (t.a = 0) False False False ∧ t.sp = s.sp ∧ Frame s t [.A] []

/-- R205: the five laws of the eight-bit arithmetic: the first two of the primitives, the third of both, the last three of
every completed instruction of the five families and its operand value. -/
def Obligations.ArithmeticLaws : Prop :=
  (∀ a v : U8, add8 a v false = add8 v a false) ∧
  (∀ (a v : U8) (b : Bool), (sub8 a v b).1 = (add8 a (255 - v) (!b)).1 ∧
    flagC (sub8 a v b).2 = !flagC (add8 a (255 - v) (!b)).2 ∧
    flagH (sub8 a v b).2 = !flagH (add8 a (255 - v) (!b)).2) ∧
  (∀ (a v : U8) (b : Bool), (flagZ (sub8 a v b).2 = true ∧ flagC (sub8 a v b).2 = true) ↔ a = 0 ∧ v = 255 ∧ b = true) ∧
  (∀ (i : Instr) (s t : State), exec i s = .next t → t.out.execDone = true →
    ((i.tagged.family = .add ∨ i.tagged.family = .adc) →
      t.f.toNat % 16 = 0 ∧ flagN t.f = false ∧
      (flagZ t.f = true → flagC t.f = false →
        s.a = 0 ∧ sourceValue i.tagged s = 0 ∧ (i.tagged.family = .adc → flagC s.f = false))) ∧
    ((i.tagged.family = .sub ∨ i.tagged.family = .sbc ∨ i.tagged.family = .cp) →
      t.f.toNat % 16 = 0 ∧ flagN t.f = true ∧
      (flagZ t.f = true → flagC t.f = true →
        i.tagged.family = .sbc ∧ s.a = 0 ∧ sourceValue i.tagged s = 255 ∧ flagC s.f = true)))

/-! ## INC and ADD16 -/

/-- R221: `INC(r)` (`incA` to `incL`): N and C are written 0. -/
def Obligations.IncIncrementsRegister : Prop :=
  ∀ (r : Reg) (s : State),
    encode (.incReg r) = 0x30000000#32 + regNumber r * 0x200000#32 ∧
    ∃ t, exec (.incReg r) s = .next t ∧ (t.reg r).toNat = ((s.reg r).toNat + 1) % 256 ∧
      IsFlags t.f (t.reg r = 0) False ((s.reg r).toNat % 16 = 15) False ∧ t.sp = s.sp ∧ Frame s t [r] [] ∧ Completed t []

/-- R222: `INC(HL)` (`incPairHL`): the pair, no memory access; H from the old low nibble. -/
def Obligations.IncIncrementsPairHl : Prop :=
  ∀ s : State,
    encode .incPairHL = 0x32400000#32 ∧
    ∃ t, exec .incPairHL s = .next t ∧ (t.pair .HL).toNat = ((s.pair .HL).toNat + 1) % 65536 ∧
      IsFlags t.f (t.pair .HL = 0) False ((s.pair .HL).toNat % 16 = 15) False ∧ t.sp = s.sp ∧
      Frame s t [.H, .L] [] ∧ Completed t []

/-- R251: `ADD16(p)` (`add16BC`, `add16DE`, `add16HL`, `add16SP`): Z is the old Z. -/
def Obligations.Add16AddsIntoHl : Prop :=
  ∀ s : State,
    let gives (i : Instr) (v : U16) : Prop :=
      ∃ t, exec i s = .next t ∧ (t.pair .HL).toNat = ((s.pair .HL).toNat + v.toNat) % 65536 ∧
        IsFlags t.f (s.f.getLsbD 7 = true) False ((s.pair .HL).toNat % 4096 + v.toNat % 4096 > 0xFFF)
          ((s.pair .HL).toNat + v.toNat > 0xFFFF) ∧
        t.sp = s.sp ∧ Frame s t [.H, .L] [] ∧ Completed t []
    (∀ p, encode (.add16Pair p) = 0x40000000#32 + pairNumber p * 0x10000#32 ∧ gives (.add16Pair p) (s.pair p)) ∧
    encode .add16SP = 0x40130000#32 ∧ gives .add16SP s.sp

/-- R252: the six laws of ADD16, for the source value `v` of the instruction. -/
def Obligations.Add16Laws : Prop :=
  ∀ (s t : State) (i : Instr) (v : U16), ((∃ p, i = .add16Pair p ∧ v = s.pair p) ∨ (i = .add16SP ∧ v = s.sp)) →
    exec i s = .next t →
    t.pair .HL = s.pair .HL + v ∧
    t.f &&& 0x80#8 = s.f &&& 0x80#8 ∧
    t.f &&& 0x4F#8 = 0 ∧
    (flagC t.f = true ↔ (t.pair .HL).toNat < (s.pair .HL).toNat) ∧
    (flagC t.f = true ↔ (t.pair .HL).toNat < v.toNat) ∧
    (flagH t.f = true ↔ (t.pair .HL).toNat % 4096 < (s.pair .HL).toNat % 4096) ∧
    (v = 0 → t.pair .HL = s.pair .HL ∧ t.f = s.f &&& 0x80#8)

/-! ## Views and memory -/

/-- R23: a pair reads as high register times 256 plus low register, and a write of it changes exactly those two. -/
def Obligations.PairViewsAreTheirRegisters : Prop :=
  ∀ (s : State) (p : Pair) (v : U16),
    (s.pair p).toNat = (s.reg (pairHi p)).toNat * 256 + (s.reg (pairLo p)).toNat ∧
    ((s.setPair p v).reg (pairHi p)).toNat = v.toNat / 256 ∧ ((s.setPair p v).reg (pairLo p)).toNat = v.toNat % 256 ∧
    (s.setPair p v).f = s.f ∧ (s.setPair p v).sp = s.sp ∧ (s.setPair p v).out = s.out ∧
    Frame s (s.setPair p v) [pairHi p, pairLo p] []

/-- R25, R26: what is written through a view is read back: all of a pair; of AF bits 15 to 4 under either policy, all bits
under `retain`. -/
def Obligations.ViewsReadBackWhatWasWritten : Prop :=
  ∀ (s : State) (v : U16),
    (∀ p, (s.setPair p v).pair p = v) ∧
    (s.setAf v).af &&& 0xFFF0#16 = v &&& 0xFFF0#16 ∧
    (s.cfg.fLow = .retain → (s.setAf v).af = v) ∧
    (s.cfg.fLow = .clear → (s.setAf v).af = v &&& 0xFFF0#16)

/-- R73, R74: a read below MEM_SIZE gives the byte and changes nothing, a write replaces one byte, and either raises at or
above MEM_SIZE. -/
def Obligations.MemoryAccessesReadAndReplaceOneByte : Prop :=
  ∀ (s : State) (a : U16) (v : U8),
    (s.cfg.memSize ≤ a.toNat → memRead a s = .error a ∧ memWrite a v s = .error a) ∧
    (a.toNat < s.cfg.memSize →
      (∃ t, memRead a s = .ok (byteAt s a.toNat, t) ∧ t.mem = s.mem ∧ t.observe = s.observe) ∧
      ∃ t, memWrite a v s = .ok t ∧ t.observe = s.observe ∧ byteAt t a.toNat = v ∧
        ∀ b, b ≠ a.toNat → byteAt t b = byteAt s b)

/-- The memory list's canonical form (log 2): two canonical memories that read alike are equal. -/
def Obligations.CanonicalMemoriesThatReadAlikeAreEqual : Prop :=
  ∀ m m' : Memory, Memory.wf m = true → Memory.wf m' = true → (∀ a, Memory.read m a = Memory.read m' a) → m = m'

/-! ## Faults -/

/-- R262, R113: presenting a word that selects no row of the opcode table sets the latch with code 2, address 0 and the word,
and changes nothing else; presenting one that selects a row never does. -/
def Obligations.IllegalWordRaisesInvariantViolation : Prop :=
  ∀ (s : State) (w : Di32) (rest : List Input), s.fault.valid = false → s.inputs = presentWord w :: rest →
    ((∀ row ∈ opcodeTable, row.selects w = false) → step s = .next (faultedState { s with inputs := rest } 2 0 w)) ∧
    ((∃ row ∈ opcodeTable, row.selects w = true) →
      ∃ t, step s = .next t ∧ (t.fault.valid = true → t.fault.code = 1))

/-- R261, R263, R264, R266: an illegal word takes InvariantViolation whatever the state holds; a legal one whose form uses an
address at or above MEM_SIZE takes MemOutOfRange at the first such address in access order; nothing else changes in either
case; otherwise the word completes and the latch is untouched. -/
def Obligations.FaultsFollowTheirPriorityAndCommitNothing : Prop :=
  ∀ (s : State) (w : Di32),
    match decode w with
    | .error _ => executeWord w s = .next (faultedState s 2 0 w)
    | .ok i =>
      match (accessTable i.tagged s).find? (fun x => decide (s.cfg.memSize ≤ x.2.toNat)) with
      | some x => executeWord w s = .next (faultedState s 1 x.2 w)
      | none => ∃ t, executeWord w s = .next t ∧ t.fault = s.fault ∧ t.out.execDone = true

/-- R260: the latch of an unfaulted block is set only by a presented word, with one of two codes and what each records, and
by nothing the host does. -/
def Obligations.OnlyPresentedWordsRaiseFaults : Prop :=
  ∀ s t : State, s.fault.valid = false → step s = .next t → t.fault.valid = true →
    ∃ p w rest, s.inputs = .ports p :: rest ∧ p.exec = some w ∧ p.rst = false ∧
      ((∃ addr i, decode w = .ok i ∧ s.cfg.memSize ≤ addr.toNat ∧ t = faultedState { s with inputs := rest } 1 addr w) ∨
        (∃ why, decode w = .error why) ∧ t = faultedState { s with inputs := rest } 2 0 w)

/-- R265, R59: a FAULTED block takes no step but a reset or the host's store into its own memory: stepped otherwise it stands
still with the latch's fault (the model's stop, log 5), and any step it does take either was a reset, or leaves the latch and
every register as they were. -/
def Obligations.OnlyResetLeavesFaulted : Prop :=
  ∀ s : State, s.fault.valid = true →
    (s.inputs = [] → step s = .fault s.stopReason) ∧
    (∀ p rest, s.inputs = .ports p :: rest → p.rst = false → step s = .fault s.stopReason) ∧
    (∀ t, step s = .next t →
      (∃ x rest, s.inputs = x :: rest ∧ AssertsReset x ∧ AllZero t) ∨
      (∃ a v rest, s.inputs = .memory a v :: rest ∧ t.observe = s.observe))

/-! ## Reset and the host -/

/-- R290, R291: `State.reset` is all zero, and asserting reset from any state leaves every register, F, SP, PC and the latch
zero, and the parameters and memory as they were. -/
def Obligations.ResetClearsBlockAndKeepsMemory : Prop :=
  AllZero State.reset ∧
  ∀ (s : State) (p : PortInput) (rest : List Input), s.inputs = .ports p :: rest → p.rst = true →
    ∃ t, step s = .next t ∧ AllZero t ∧ t.mem = s.mem ∧ t.cfg = s.cfg ∧ t.inputs = rest ∧ t.blockState = .idle ∧
      t.out = { execDone := false, accesses := [] }

/-- R293 (with the count of log 9): reset asserted after the first of the two stores of any PUSH, PUSH(AF) included: registers
reset, the high byte written, every other byte as it was. -/
def Obligations.ResetInMidPushLeavesHalfThePush : Prop :=
  ∀ (s : State) (rest : List Input), s.fault.valid = false → s.sp.toNat < s.cfg.memSize →
    (s.sp - 1).toNat < s.cfg.memSize →
    let leavesHalf (i : Instr) (hi : U8) : Prop :=
      s.inputs = .abandoned (encode i) 1 :: rest →
        ∃ t, step s = .next t ∧ AllZero t ∧ byteAt t s.sp.toNat = hi ∧
          (∀ a, a ≠ s.sp.toNat → byteAt t a = byteAt s a) ∧ t.out.execDone = false
    (∀ p, leavesHalf (.pushPair p) (s.reg (pairHi p))) ∧ leavesHalf .pushAF s.a

/-- R57: the effect of an accepted host write, selector by selector, and nothing else. -/
def Obligations.HostWritesFollowTheSelectorTable : Prop :=
  ∀ (s : State) (d : U16) (rest : List Input) (sel : BitVec 4), s.fault.valid = false →
    s.inputs = .ports { rst := false, exec := none, hostWrite := some { sel := sel, data := d } } :: rest →
    let q : State := { s with inputs := rest, out := { execDone := false, accesses := [] } }
    let hi : U8 := BitVec.ofNat 8 (d.toNat / 256)
    let lo : U8 := BitVec.ofNat 8 d.toNat
    let low : U8 := if s.cfg.fLow = .retain then lo else lo &&& 0xF0#8
    step s = .next
      (if sel = 0 then { q with a := lo } else if sel = 1 then { q with b := lo } else if sel = 2 then { q with c := lo }
       else if sel = 3 then { q with d := lo } else if sel = 4 then { q with e := lo } else if sel = 5 then { q with h := lo }
       else if sel = 6 then { q with l := lo } else if sel = 7 then { q with f := low }
       else if sel = 8 then { q with b := hi, c := lo } else if sel = 9 then { q with d := hi, e := lo }
       else if sel = 10 then { q with h := hi, l := lo } else if sel = 11 then { q with a := hi, f := low }
       else if sel = 12 then { q with sp := d } else if sel = 13 then { q with pc := d } else q)

/-- R56, R52, R278: in one instant of an IDLE block a word wins over a host write, which is not accepted, and with nothing
presented the block holds its state. -/
def Obligations.WordWinsOverHostWriteAndIdleHolds : Prop :=
  ∀ s : State, s.fault.valid = false →
    (∀ w hw rest, s.inputs = .ports { rst := false, exec := some w, hostWrite := hw } :: rest →
      step s = executeWord w { s with inputs := rest }) ∧
    (∀ rest, s.inputs = .ports { rst := false, exec := none, hostWrite := none } :: rest →
      ∃ t, step s = .next t ∧ t.observe = s.observe ∧ t.mem = s.mem ∧ t.cfg = s.cfg) ∧
    (s.inputs = [] → ∃ t, step s = .next t ∧ t.observe = s.observe ∧ t.mem = s.mem ∧ t.cfg = s.cfg)

/-- R58: between steps the host's store replaces one byte of its own memory and touches nothing of the block; outside the
buffer the model refuses it (log 8). -/
def Obligations.HostStoreReplacesOneByte : Prop :=
  ∀ (s : State) (a : U16) (v : U8) (rest : List Input), s.inputs = .memory a v :: rest →
    (a.toNat < s.cfg.memSize → ∃ t, step s = .next t ∧ t.observe = s.observe ∧ t.cfg = s.cfg ∧ t.inputs = rest ∧
      byteAt t a.toNat = v ∧ ∀ b, b ≠ a.toNat → byteAt t b = byteAt s b) ∧
    (s.cfg.memSize ≤ a.toNat → step s = .refused (.hostStoreOutsideBuffer a))

/-! ## The machine as a whole -/

/-- R52, R53: when the word presented to an IDLE block decodes to an instruction, the step is `exec` of it, on the state that
has taken the word off the host's list; and `withFetchWord` presents exactly such a word. -/
def Obligations.StepRunsTheDecodedInstruction : Prop :=
  (∀ (s : State) (p : PortInput) (w : Di32) (i : Instr) (rest : List Input), s.fault.valid = false →
    s.inputs = .ports p :: rest → p.rst = false → p.exec = some w → decode w = .ok i →
    step s = exec i { s with inputs := rest }) ∧
  (∀ (s : State) (w : Nat) (i : Instr), s.fault.valid = false → w < 2 ^ 32 → decode (BitVec.ofNat 32 w) = .ok i →
    step (s.withFetchWord 32 w) = exec i s)

/-- R300, R53: every instruction, in every state, answers a next state; it either completes or leaves everything but the
latch as it was. -/
def Obligations.EveryInstructionAnswersNextState : Prop :=
  ∀ (i : Instr) (s : State), ∃ t, exec i s = .next t ∧
    (t.out.execDone = true ∨ ∃ a, t = faultedState s 1 a (encode i))

/-- R28: no instruction writes PC, and none reads it: another PC gives the same step but for PC. -/
def Obligations.InstructionsNeitherReadNorWritePc : Prop :=
  ∀ (i : Instr) (s t : State) (q : U16), exec i s = .next t →
    t.pc = s.pc ∧ exec i { s with pc := q } = .next { t with pc := q }

/-- R27: SP is written by PUSH and POP alone, and read by them and ADD16(SP) alone: another SP gives every other
instruction the same step but for SP. -/
def Obligations.OnlyStackAndAdd16SpUseStackPointer : Prop :=
  ∀ (i : Instr) (s t : State) (q : U16), exec i s = .next t → i.tagged.family ≠ .push → i.tagged.family ≠ .pop →
    t.sp = s.sp ∧ (i ≠ .add16SP → exec i { s with sp := q } = .next { t with sp := q })

/-- R41: memory is changed by LDRR with an (HL) destination, LDFA with a memory destination and PUSH alone. -/
def Obligations.OnlyStoringFormsWriteMemory : Prop :=
  ∀ (i : Instr) (s t : State), exec i s = .next t → (∃ a, byteAt t a ≠ byteAt s a) → storesToMemory i.tagged = true

/-- R30, R41: F is changed by the flag-computing families and POP(AF) alone, and a flag-computing instruction that completes
leaves F[3:0] zero. -/
def Obligations.OnlyFlagWritersWriteF : Prop :=
  ∀ (i : Instr) (s t : State), exec i s = .next t →
    (t.f ≠ s.f → computesFlags i.tagged.family = true ∨ i = .popAF) ∧
    (computesFlags i.tagged.family = true → t.out.execDone = true → t.f.toNat % 16 = 0)

/-- R31: only ADC and SBC (bit C), ADD16 (bit Z) and PUSH(AF) (the byte pushed) read F. From another F: a form that computes
flags, or POP(AF), and reads none, completing, answers the very same state; a form that neither reads nor writes F, and any
form that faults, answers the same state with that other F carried through; ADC and SBC answer the same state when bit C
agrees, ADD16 when bit Z does; and PUSH(AF) differs in F and in the low byte it pushes, which is F. -/
def Obligations.OnlyFlagReadersDependOnF : Prop :=
  ∀ (i : Instr) (s t : State) (g : U8), exec i s = .next t →
    (readsF i.tagged = false → (computesFlags i.tagged.family = true ∨ i = .popAF) → t.out.execDone = true →
      exec i { s with f := g } = .next t) ∧
    (readsF i.tagged = false → computesFlags i.tagged.family = false → i ≠ .popAF →
      exec i { s with f := g } = .next { t with f := g }) ∧
    (t.out.execDone = false → exec i { s with f := g } = .next { t with f := g }) ∧
    ((i.tagged.family = .adc ∨ i.tagged.family = .sbc) → flagC g = flagC s.f → t.out.execDone = true →
      exec i { s with f := g } = .next t) ∧
    (i.tagged.family = .add16 → flagZ g = flagZ s.f → exec i { s with f := g } = .next t) ∧
    (i = .pushAF → t.out.execDone = true →
      ∃ u, exec i { s with f := g } = .next u ∧ u.f = g ∧ u.sp = t.sp ∧
        byteAt t (s.sp - 1).toNat = s.f ∧ byteAt u (s.sp - 1).toNat = g ∧ Frame t u [] [(s.sp - 1).toNat])

/-- R82, R83, R301: a completed step makes exactly the accesses of the table, in its order, none or one or two of them, and
a faulting step makes none. -/
def Obligations.StepsMakeTheListedAccesses : Prop :=
  ∀ (i : Instr) (s t : State), exec i s = .next t →
    (t.out.execDone = true → t.out.accesses.map accessKind = accessTable i.tagged s) ∧
    (t.out.execDone = false → t.out.accesses = []) ∧ t.out.accesses.length ≤ 2

/-- Every step, whatever the host does, keeps the machine's invariant: canonical memory inside its buffer, legal parameters,
a latch one of the two faults can leave. -/
def Obligations.StepKeepsInvariant : Prop :=
  ∀ s t : State, s.Inv → step s = .next t → t.Inv

/-- The reset state meets the invariant. -/
def Obligations.ResetMeetsInvariant : Prop :=
  State.reset.Inv

/-- R296: the run of a program is the composition of its steps: completed after the last word, or ended at the first fault,
after which the machine, stepped on without reset, stands still with that fault (log 5). -/
def Obligations.ProgramRunIsCompositionOfSteps : Prop :=
  ∀ (ws : List Di32) (s : State), s.safe → s.inputs = [] →
    match runProgram ws s with
    | .completed t => t.safe ∧ Host.Core.run Sys2Proof.core ws.length (s.withProgram ws) = .next t
    | .faulted t => t.fault.valid = true ∧ ∃ k, k < ws.length ∧
        Host.Core.run Sys2Proof.core (k + 1) (s.withProgram ws) = .next (t.withProgram (ws.drop (k + 1))) ∧
        ∀ m, Host.Core.run Sys2Proof.core (k + 2 + m) (s.withProgram ws) = .fault t.stopReason
end

