-- ==== Sys2Proof/Laws/Encoding.lean ====
section
/-! SUPPORT. The layout of a word (spec/30_encoding.md R100): each field of an encoded tagged value is what was put there, the
four fields are the whole word, and the code tables of R102 and R104 are read back as they are written. -/

namespace Sys2Proof

/-- A word as the sum of its fields, each at its place. -/
theorem word_toNat (f : BitVec 6) (x y : BitVec 5) (k : U16) :
    (f ++ x ++ y ++ k : Di32).toNat = f.toNat * 2 ^ 26 + x.toNat * 2 ^ 21 + y.toNat * 2 ^ 16 + k.toNat := by
  have hx := x.isLt
  have hy := y.isLt
  have hk := k.isLt
  simp only [BitVec.toNat_append]
  rw [← Nat.shiftLeft_add_eq_or_of_lt hx, ← Nat.shiftLeft_add_eq_or_of_lt hy, ← Nat.shiftLeft_add_eq_or_of_lt hk]
  simp only [Nat.shiftLeft_eq]
  omega

@[simp] theorem famField_word (t : Tagged) : famField t.word = t.family.code := by
  apply BitVec.eq_of_toNat_eq
  have hf := t.family.code.isLt
  have hx := t.x.code.isLt
  have hy := t.y.code.isLt
  have hk := t.k.isLt
  simp only [famField, Tagged.word, BitVec.extractLsb'_toNat, word_toNat, Nat.shiftRight_eq_div_pow]
  omega

@[simp] theorem xField_word (t : Tagged) : xField t.word = t.x.code := by
  apply BitVec.eq_of_toNat_eq
  have hx := t.x.code.isLt
  have hy := t.y.code.isLt
  have hk := t.k.isLt
  simp only [xField, Tagged.word, BitVec.extractLsb'_toNat, word_toNat, Nat.shiftRight_eq_div_pow]
  omega

@[simp] theorem yField_word (t : Tagged) : yField t.word = t.y.code := by
  apply BitVec.eq_of_toNat_eq
  have hy := t.y.code.isLt
  have hk := t.k.isLt
  simp only [yField, Tagged.word, BitVec.extractLsb'_toNat, word_toNat, Nat.shiftRight_eq_div_pow]
  omega

@[simp] theorem kField_word (t : Tagged) : kField t.word = t.k := by
  apply BitVec.eq_of_toNat_eq
  have hk := t.k.isLt
  simp only [kField, Tagged.word, BitVec.extractLsb'_toNat, word_toNat, Nat.shiftRight_eq_div_pow]
  omega

/-- The four fields are the whole word. -/
theorem word_of_fields (w : Di32) : famField w ++ xField w ++ yField w ++ kField w = w := by
  apply BitVec.eq_of_toNat_eq
  have hw := w.isLt
  simp only [word_toNat, famField, xField, yField, kField, BitVec.extractLsb'_toNat, Nat.shiftRight_eq_div_pow]
  omega

@[simp] theorem Family.ofCode_code (f : Family) : Family.ofCode f.code = some f := by
  cases f <;> rfl

@[simp] theorem Selector.ofCode_code (x : Selector) : Selector.ofCode x.code = some x := by
  cases x <;> first
    | rfl
    | (rename_i p; cases p <;> rfl)

/-- A family code is read back as it is written. -/
theorem Family.code_of_ofCode : ∀ c : BitVec 6, ∀ f ∈ Family.ofCode c, f.code = c := by
  decide

/-- A selector code is read back as it is written. -/
theorem Selector.code_of_ofCode : ∀ c : BitVec 5, ∀ x ∈ Selector.ofCode c, x.code = c := by
  decide

/-- The immediate of a K whose high byte is zero is all of it (R106). -/
theorem immediate_of_low {k : U16} (h : k.toNat < 256) : 0#8 ++ k.extractLsb' 0 8 = k := by
  apply BitVec.eq_of_toNat_eq
  rw [BitVec.toNat_append]
  simp
  omega

end Sys2Proof
end

