-- ==== Sys2Proof/Laws/Memory.lean ====
section
/-! SUPPORT. The laws of the memory list: a read after a write to the same address gives the byte, a write leaves every
other address alone, and every operation keeps the canonical form and the buffer's bound. -/

namespace Sys2Proof.Machine

/-! ## Reads -/

theorem Memory.read_erase_same (m : Memory) (a : Nat) : Memory.read (Memory.erase m a) a = Memory.unlisted := by
  induction m with
  | nil => rfl
  | cons cell m ih =>
    obtain ⟨k, v⟩ := cell
    by_cases hk : k = a
    · subst hk
      simpa [Memory.erase] using ih
    · have : Memory.erase ((k, v) :: m) a = (k, v) :: Memory.erase m a := by simp [Memory.erase, hk]
      rw [this, Memory.read, if_neg hk, ih]

theorem Memory.read_erase_other (m : Memory) {a b : Nat} (h : b ≠ a) :
    Memory.read (Memory.erase m a) b = Memory.read m b := by
  induction m with
  | nil => rfl
  | cons cell m ih =>
    obtain ⟨k, v⟩ := cell
    by_cases hk : k = a
    · subst hk
      have : Memory.erase ((k, v) :: m) k = Memory.erase m k := by simp [Memory.erase]
      rw [this, ih, Memory.read, if_neg (Ne.symm h)]
    · have : Memory.erase ((k, v) :: m) a = (k, v) :: Memory.erase m a := by simp [Memory.erase, hk]
      rw [this, Memory.read, Memory.read, ih]

theorem Memory.read_insert_same (m : Memory) (a : Nat) (v : U8) : Memory.read (Memory.insert m a v) a = v := by
  induction m with
  | nil => simp [Memory.insert, Memory.read]
  | cons cell m ih =>
    obtain ⟨k, w⟩ := cell
    unfold Memory.insert
    split
    · simp [Memory.read]
    · split
      · simp [Memory.read]
      · rename_i _ hne
        rw [Memory.read, if_neg (Ne.symm hne), ih]

theorem Memory.read_insert_other (m : Memory) {a b : Nat} (v : U8) (h : b ≠ a) :
    Memory.read (Memory.insert m a v) b = Memory.read m b := by
  induction m with
  | nil => simp [Memory.insert, Memory.read, Ne.symm h]
  | cons cell m ih =>
    obtain ⟨k, w⟩ := cell
    unfold Memory.insert
    split
    · simp [Memory.read, Ne.symm h]
    · split
      · rename_i _ hk
        subst hk
        simp [Memory.read, Ne.symm h]
      · rw [Memory.read, Memory.read, ih]

/-- A write is read back (spec/20_memory.md R74). -/
@[simp] theorem Memory.read_write_same (m : Memory) (a : Nat) (v : U8) : Memory.read (Memory.write m a v) a = v := by
  unfold Memory.write
  split
  · next h => rw [Memory.read_erase_same, h]
  · exact Memory.read_insert_same m a v

/-- A write leaves every other byte (R74). -/
theorem Memory.read_write_other (m : Memory) {a b : Nat} (v : U8) (h : b ≠ a) :
    Memory.read (Memory.write m a v) b = Memory.read m b := by
  unfold Memory.write
  split
  · exact Memory.read_erase_other m h
  · exact Memory.read_insert_other m v h

/-! ## The canonical form -/

/-- `sorted` as the library's sortedness. -/
theorem Memory.sorted_iff (m : Memory) : Memory.sorted m = true ↔ m.Pairwise (fun x y => x.1 < y.1) := by
  induction m with
  | nil => simp [Memory.sorted]
  | cons x m ih =>
    cases m with
    | nil => simp [Memory.sorted]
    | cons y m =>
      obtain ⟨a, v⟩ := x
      obtain ⟨b, w⟩ := y
      rw [Memory.sorted, Bool.and_eq_true, ih, decide_eq_true_eq]
      constructor
      · rintro ⟨hab, hp⟩
        refine List.pairwise_cons.2 ⟨?_, hp⟩
        intro z hz
        rcases List.mem_cons.1 hz with rfl | hz
        · exact hab
        · exact Nat.lt_trans hab ((List.pairwise_cons.1 hp).1 z hz)
      · intro h
        obtain ⟨hall, hp⟩ := List.pairwise_cons.1 h
        exact ⟨hall (b, w) (by simp), hp⟩

/-- What an insertion lists: the new entry or old ones. -/
theorem Memory.mem_insert {m : Memory} {a : Nat} {v : U8} {x : Host.Cell} (h : x ∈ Memory.insert m a v) :
    x = (a, v) ∨ x ∈ m := by
  induction m with
  | nil => simpa [Memory.insert] using h
  | cons cell m ih =>
    obtain ⟨k, w⟩ := cell
    unfold Memory.insert at h
    split at h
    · simpa using h
    · split at h
      · rcases List.mem_cons.1 h with h | h
        · exact .inl h
        · exact .inr (List.mem_cons_of_mem _ h)
      · rcases List.mem_cons.1 h with h | h
        · exact .inr (by simp [h])
        · exact (ih h).imp_right (List.mem_cons_of_mem _)

theorem Memory.pairwise_insert {m : Memory} {a : Nat} {v : U8} (h : m.Pairwise (fun x y => x.1 < y.1)) :
    (Memory.insert m a v).Pairwise (fun x y => x.1 < y.1) := by
  induction m with
  | nil => simp [Memory.insert]
  | cons cell m ih =>
    obtain ⟨k, w⟩ := cell
    obtain ⟨hk, hm⟩ := List.pairwise_cons.1 h
    unfold Memory.insert
    split
    · next hlt =>
      refine List.pairwise_cons.2 ⟨?_, h⟩
      intro z hz
      rcases List.mem_cons.1 hz with rfl | hz
      · exact hlt
      · exact Nat.lt_trans hlt (hk z hz)
    · split
      · next _ heq =>
        subst heq
        exact List.pairwise_cons.2 ⟨hk, hm⟩
      · next hlt hne =>
        refine List.pairwise_cons.2 ⟨?_, ih hm⟩
        intro z hz
        rcases Memory.mem_insert hz with rfl | hz
        · show k < a
          omega
        · exact hk z hz

/-- What a write lists: the new entry, which is not a default byte, or old ones. -/
theorem Memory.mem_write {m : Memory} {a : Nat} {v : U8} {x : Host.Cell} (h : x ∈ Memory.write m a v) :
    (x = (a, v) ∧ v ≠ Memory.unlisted) ∨ x ∈ m := by
  unfold Memory.write at h
  split at h
  · exact .inr (List.mem_of_mem_filter h)
  · next hv => exact (Memory.mem_insert h).imp_left fun hx => ⟨hx, hv⟩

/-- Every write keeps the canonical form. -/
theorem Memory.wf_write {m : Memory} (a : Nat) (v : U8) (h : Memory.wf m = true) :
    Memory.wf (Memory.write m a v) = true := by
  rw [Memory.wf, Bool.and_eq_true, Memory.sorted_iff, Memory.noDefault, List.all_eq_true] at h ⊢
  constructor
  · unfold Memory.write
    split
    · exact h.1.filter _
    · exact Memory.pairwise_insert h.1
  · intro x hx
    rcases Memory.mem_write hx with ⟨rfl, hv⟩ | hx
    · simpa using hv
    · exact h.2 x hx

/-- Every write inside the buffer keeps the memory inside it. -/
theorem Memory.fits_write {m : Memory} {size a : Nat} (v : U8) (ha : a < size) (h : Memory.fits size m = true) :
    Memory.fits size (Memory.write m a v) = true := by
  rw [Memory.fits, List.all_eq_true] at h ⊢
  intro x hx
  rcases Memory.mem_write hx with ⟨rfl, _⟩ | hx
  · simpa using ha
  · exact h x hx

/-- The memory of `State.reset` is canonical. -/
theorem Memory.wf_reset : Memory.wf State.reset.mem = true := rfl

end Sys2Proof.Machine
end

