-- ==== Sys2Proof/Laws/State.lean ====
section
/-! SUPPORT. The small lemmas of State: for each update, each field it leaves or sets, so that no proof unfolds an update. -/

namespace Sys2Proof.Machine

/-! ## `quiet` -/

@[simp] theorem State.quiet_a (s : State) : (s.quiet).a = s.a := rfl

@[simp] theorem State.quiet_b (s : State) : (s.quiet).b = s.b := rfl

@[simp] theorem State.quiet_c (s : State) : (s.quiet).c = s.c := rfl

@[simp] theorem State.quiet_d (s : State) : (s.quiet).d = s.d := rfl

@[simp] theorem State.quiet_e (s : State) : (s.quiet).e = s.e := rfl

@[simp] theorem State.quiet_h (s : State) : (s.quiet).h = s.h := rfl

@[simp] theorem State.quiet_l (s : State) : (s.quiet).l = s.l := rfl

@[simp] theorem State.quiet_f (s : State) : (s.quiet).f = s.f := rfl

@[simp] theorem State.quiet_sp (s : State) : (s.quiet).sp = s.sp := rfl

@[simp] theorem State.quiet_pc (s : State) : (s.quiet).pc = s.pc := rfl

@[simp] theorem State.quiet_fault (s : State) : (s.quiet).fault = s.fault := rfl

@[simp] theorem State.quiet_cfg (s : State) : (s.quiet).cfg = s.cfg := rfl

@[simp] theorem State.quiet_mem (s : State) : (s.quiet).mem = s.mem := rfl

@[simp] theorem State.quiet_inputs (s : State) : (s.quiet).inputs = s.inputs := rfl

@[simp] theorem State.quiet_reg (s : State) (r : Reg) : (s.quiet).reg r = s.reg r := by cases r <;> rfl

@[simp] theorem State.quiet_pair (s : State) (p : Pair) : (s.quiet).pair p = s.pair p := by cases p <;> rfl

@[simp] theorem State.quiet_af (s : State) : (s.quiet).af = s.af := rfl

@[simp] theorem State.quiet_out (s : State) : s.quiet.out = Outputs.quiet := rfl

/-! ## `complete` -/

@[simp] theorem State.complete_a (s : State) : (s.complete).a = s.a := rfl

@[simp] theorem State.complete_b (s : State) : (s.complete).b = s.b := rfl

@[simp] theorem State.complete_c (s : State) : (s.complete).c = s.c := rfl

@[simp] theorem State.complete_d (s : State) : (s.complete).d = s.d := rfl

@[simp] theorem State.complete_e (s : State) : (s.complete).e = s.e := rfl

@[simp] theorem State.complete_h (s : State) : (s.complete).h = s.h := rfl

@[simp] theorem State.complete_l (s : State) : (s.complete).l = s.l := rfl

@[simp] theorem State.complete_f (s : State) : (s.complete).f = s.f := rfl

@[simp] theorem State.complete_sp (s : State) : (s.complete).sp = s.sp := rfl

@[simp] theorem State.complete_pc (s : State) : (s.complete).pc = s.pc := rfl

@[simp] theorem State.complete_fault (s : State) : (s.complete).fault = s.fault := rfl

@[simp] theorem State.complete_cfg (s : State) : (s.complete).cfg = s.cfg := rfl

@[simp] theorem State.complete_mem (s : State) : (s.complete).mem = s.mem := rfl

@[simp] theorem State.complete_inputs (s : State) : (s.complete).inputs = s.inputs := rfl

@[simp] theorem State.complete_reg (s : State) (r : Reg) : (s.complete).reg r = s.reg r := by cases r <;> rfl

@[simp] theorem State.complete_pair (s : State) (p : Pair) : (s.complete).pair p = s.pair p := by cases p <;> rfl

@[simp] theorem State.complete_af (s : State) : (s.complete).af = s.af := rfl

@[simp] theorem State.complete_execDone (s : State) : s.complete.out.execDone = true := rfl

@[simp] theorem State.complete_accesses (s : State) : s.complete.out.accesses = s.out.accesses := rfl

/-! ## `record` -/

@[simp] theorem State.record_a (s : State) (x : Access) : (s.record x).a = s.a := rfl

@[simp] theorem State.record_b (s : State) (x : Access) : (s.record x).b = s.b := rfl

@[simp] theorem State.record_c (s : State) (x : Access) : (s.record x).c = s.c := rfl

@[simp] theorem State.record_d (s : State) (x : Access) : (s.record x).d = s.d := rfl

@[simp] theorem State.record_e (s : State) (x : Access) : (s.record x).e = s.e := rfl

@[simp] theorem State.record_h (s : State) (x : Access) : (s.record x).h = s.h := rfl

@[simp] theorem State.record_l (s : State) (x : Access) : (s.record x).l = s.l := rfl

@[simp] theorem State.record_f (s : State) (x : Access) : (s.record x).f = s.f := rfl

@[simp] theorem State.record_sp (s : State) (x : Access) : (s.record x).sp = s.sp := rfl

@[simp] theorem State.record_pc (s : State) (x : Access) : (s.record x).pc = s.pc := rfl

@[simp] theorem State.record_fault (s : State) (x : Access) : (s.record x).fault = s.fault := rfl

@[simp] theorem State.record_cfg (s : State) (x : Access) : (s.record x).cfg = s.cfg := rfl

@[simp] theorem State.record_mem (s : State) (x : Access) : (s.record x).mem = s.mem := rfl

@[simp] theorem State.record_inputs (s : State) (x : Access) : (s.record x).inputs = s.inputs := rfl

@[simp] theorem State.record_reg (s : State) (x : Access) (r : Reg) : (s.record x).reg r = s.reg r := by cases r <;> rfl

@[simp] theorem State.record_pair (s : State) (x : Access) (p : Pair) : (s.record x).pair p = s.pair p := by cases p <;> rfl

@[simp] theorem State.record_af (s : State) (x : Access) : (s.record x).af = s.af := rfl

@[simp] theorem State.record_execDone (s : State) (x : Access) : (s.record x).out.execDone = s.out.execDone := rfl

@[simp] theorem State.record_accesses (s : State) (x : Access) : (s.record x).out.accesses = s.out.accesses ++ [x] := rfl

/-! ## `takeFault` -/

@[simp] theorem State.takeFault_a (s : State) (k : Cause) (a : U16) (w : Di32) : (s.takeFault k a w).a = s.a := rfl

@[simp] theorem State.takeFault_b (s : State) (k : Cause) (a : U16) (w : Di32) : (s.takeFault k a w).b = s.b := rfl

@[simp] theorem State.takeFault_c (s : State) (k : Cause) (a : U16) (w : Di32) : (s.takeFault k a w).c = s.c := rfl

@[simp] theorem State.takeFault_d (s : State) (k : Cause) (a : U16) (w : Di32) : (s.takeFault k a w).d = s.d := rfl

@[simp] theorem State.takeFault_e (s : State) (k : Cause) (a : U16) (w : Di32) : (s.takeFault k a w).e = s.e := rfl

@[simp] theorem State.takeFault_h (s : State) (k : Cause) (a : U16) (w : Di32) : (s.takeFault k a w).h = s.h := rfl

@[simp] theorem State.takeFault_l (s : State) (k : Cause) (a : U16) (w : Di32) : (s.takeFault k a w).l = s.l := rfl

@[simp] theorem State.takeFault_f (s : State) (k : Cause) (a : U16) (w : Di32) : (s.takeFault k a w).f = s.f := rfl

@[simp] theorem State.takeFault_sp (s : State) (k : Cause) (a : U16) (w : Di32) : (s.takeFault k a w).sp = s.sp := rfl

@[simp] theorem State.takeFault_pc (s : State) (k : Cause) (a : U16) (w : Di32) : (s.takeFault k a w).pc = s.pc := rfl

@[simp] theorem State.takeFault_cfg (s : State) (k : Cause) (a : U16) (w : Di32) : (s.takeFault k a w).cfg = s.cfg := rfl

@[simp] theorem State.takeFault_mem (s : State) (k : Cause) (a : U16) (w : Di32) : (s.takeFault k a w).mem = s.mem := rfl

@[simp] theorem State.takeFault_inputs (s : State) (k : Cause) (a : U16) (w : Di32) : (s.takeFault k a w).inputs = s.inputs := rfl

@[simp] theorem State.takeFault_reg (s : State) (k : Cause) (a : U16) (w : Di32) (r : Reg) : (s.takeFault k a w).reg r = s.reg r := by cases r <;> rfl

@[simp] theorem State.takeFault_pair (s : State) (k : Cause) (a : U16) (w : Di32) (p : Pair) : (s.takeFault k a w).pair p = s.pair p := by cases p <;> rfl

@[simp] theorem State.takeFault_af (s : State) (k : Cause) (a : U16) (w : Di32) : (s.takeFault k a w).af = s.af := rfl

@[simp] theorem State.takeFault_fault (s : State) (k : Cause) (a : U16) (w : Di32) : (s.takeFault k a w).fault = { valid := true, code := k.code, addr := a, word := w } := rfl

@[simp] theorem State.takeFault_out (s : State) (k : Cause) (a : U16) (w : Di32) : (s.takeFault k a w).out = Outputs.quiet := rfl

/-! ## `setAf` -/

@[simp] theorem State.setAf_b (s : State) (v : U16) : (s.setAf v).b = s.b := rfl

@[simp] theorem State.setAf_c (s : State) (v : U16) : (s.setAf v).c = s.c := rfl

@[simp] theorem State.setAf_d (s : State) (v : U16) : (s.setAf v).d = s.d := rfl

@[simp] theorem State.setAf_e (s : State) (v : U16) : (s.setAf v).e = s.e := rfl

@[simp] theorem State.setAf_h (s : State) (v : U16) : (s.setAf v).h = s.h := rfl

@[simp] theorem State.setAf_l (s : State) (v : U16) : (s.setAf v).l = s.l := rfl

@[simp] theorem State.setAf_sp (s : State) (v : U16) : (s.setAf v).sp = s.sp := rfl

@[simp] theorem State.setAf_pc (s : State) (v : U16) : (s.setAf v).pc = s.pc := rfl

@[simp] theorem State.setAf_fault (s : State) (v : U16) : (s.setAf v).fault = s.fault := rfl

@[simp] theorem State.setAf_cfg (s : State) (v : U16) : (s.setAf v).cfg = s.cfg := rfl

@[simp] theorem State.setAf_mem (s : State) (v : U16) : (s.setAf v).mem = s.mem := rfl

@[simp] theorem State.setAf_inputs (s : State) (v : U16) : (s.setAf v).inputs = s.inputs := rfl

@[simp] theorem State.setAf_out (s : State) (v : U16) : (s.setAf v).out = s.out := rfl

@[simp] theorem State.setAf_a (s : State) (v : U16) : (s.setAf v).a = hiByte v := rfl

@[simp] theorem State.setAf_f (s : State) (v : U16) : (s.setAf v).f = fLow s.cfg.fLow (loByte v) := rfl

/-! ## `setReg` and `setPair` -/

@[simp] theorem State.setReg_f (s : State) (r : Reg) (v : U8) : (s.setReg r v).f = s.f := by cases r <;> rfl

@[simp] theorem State.setReg_sp (s : State) (r : Reg) (v : U8) : (s.setReg r v).sp = s.sp := by cases r <;> rfl

@[simp] theorem State.setReg_pc (s : State) (r : Reg) (v : U8) : (s.setReg r v).pc = s.pc := by cases r <;> rfl

@[simp] theorem State.setReg_fault (s : State) (r : Reg) (v : U8) : (s.setReg r v).fault = s.fault := by cases r <;> rfl

@[simp] theorem State.setReg_cfg (s : State) (r : Reg) (v : U8) : (s.setReg r v).cfg = s.cfg := by cases r <;> rfl

@[simp] theorem State.setReg_mem (s : State) (r : Reg) (v : U8) : (s.setReg r v).mem = s.mem := by cases r <;> rfl

@[simp] theorem State.setReg_inputs (s : State) (r : Reg) (v : U8) : (s.setReg r v).inputs = s.inputs := by cases r <;> rfl

@[simp] theorem State.setReg_out (s : State) (r : Reg) (v : U8) : (s.setReg r v).out = s.out := by cases r <;> rfl

@[simp] theorem State.setPair_f (s : State) (p : Pair) (v : U16) : (s.setPair p v).f = s.f := by cases p <;> rfl

@[simp] theorem State.setPair_sp (s : State) (p : Pair) (v : U16) : (s.setPair p v).sp = s.sp := by cases p <;> rfl

@[simp] theorem State.setPair_pc (s : State) (p : Pair) (v : U16) : (s.setPair p v).pc = s.pc := by cases p <;> rfl

@[simp] theorem State.setPair_fault (s : State) (p : Pair) (v : U16) : (s.setPair p v).fault = s.fault := by cases p <;> rfl

@[simp] theorem State.setPair_cfg (s : State) (p : Pair) (v : U16) : (s.setPair p v).cfg = s.cfg := by cases p <;> rfl

@[simp] theorem State.setPair_mem (s : State) (p : Pair) (v : U16) : (s.setPair p v).mem = s.mem := by cases p <;> rfl

@[simp] theorem State.setPair_inputs (s : State) (p : Pair) (v : U16) : (s.setPair p v).inputs = s.inputs := by cases p <;> rfl

@[simp] theorem State.setPair_out (s : State) (p : Pair) (v : U16) : (s.setPair p v).out = s.out := by cases p <;> rfl

/-- A register reads what was last written to it. -/
@[simp] theorem State.reg_setReg_same (s : State) (r : Reg) (v : U8) : (s.setReg r v).reg r = v := by
  cases r <;> rfl

/-- A write to one register leaves the others. -/
@[simp] theorem State.reg_setReg_other (s : State) {r q : Reg} (v : U8) (h : q ≠ r) :
    (s.setReg r v).reg q = s.reg q := by
  cases r <;> cases q <;> first | rfl | exact absurd rfl h

/-- A pair write sets its high register. -/
@[simp] theorem State.reg_setPair_hi (s : State) (p : Pair) (v : U16) : (s.setPair p v).reg (pairHi p) = hiByte v := by
  cases p <;> rfl

/-- A pair write sets its low register. -/
@[simp] theorem State.reg_setPair_lo (s : State) (p : Pair) (v : U16) : (s.setPair p v).reg (pairLo p) = loByte v := by
  cases p <;> rfl

/-- A pair write leaves the registers outside the pair. -/
theorem State.reg_setPair_other (s : State) {p : Pair} {q : Reg} (v : U16) (hi : q ≠ pairHi p) (lo : q ≠ pairLo p) :
    (s.setPair p v).reg q = s.reg q := by
  rw [State.setPair, State.reg_setReg_other _ _ lo, State.reg_setReg_other _ _ hi]

/-! ## `resetBlock` -/

@[simp] theorem State.resetBlock_a (s : State) : s.resetBlock.a = 0 := rfl

@[simp] theorem State.resetBlock_b (s : State) : s.resetBlock.b = 0 := rfl

@[simp] theorem State.resetBlock_c (s : State) : s.resetBlock.c = 0 := rfl

@[simp] theorem State.resetBlock_d (s : State) : s.resetBlock.d = 0 := rfl

@[simp] theorem State.resetBlock_e (s : State) : s.resetBlock.e = 0 := rfl

@[simp] theorem State.resetBlock_h (s : State) : s.resetBlock.h = 0 := rfl

@[simp] theorem State.resetBlock_l (s : State) : s.resetBlock.l = 0 := rfl

@[simp] theorem State.resetBlock_f (s : State) : s.resetBlock.f = 0 := rfl

@[simp] theorem State.resetBlock_sp (s : State) : s.resetBlock.sp = 0 := rfl

@[simp] theorem State.resetBlock_pc (s : State) : s.resetBlock.pc = 0 := rfl

@[simp] theorem State.resetBlock_fault (s : State) : s.resetBlock.fault = FaultLatch.none := rfl

@[simp] theorem State.resetBlock_cfg (s : State) : s.resetBlock.cfg = s.cfg := rfl

@[simp] theorem State.resetBlock_mem (s : State) : s.resetBlock.mem = s.mem := rfl

@[simp] theorem State.resetBlock_inputs (s : State) : s.resetBlock.inputs = s.inputs := rfl

@[simp] theorem State.resetBlock_out (s : State) : s.resetBlock.out = Outputs.quiet := rfl

end Sys2Proof.Machine
end

