-- ==== Sys2Proof/Laws/Ops.lean ====
section
/-! SUPPORT. One lemma for each shared operation that says all it can do: the memory port, operand resolution, commit, and the
shapes of instruction built from them. -/

namespace Sys2Proof.Machine

/-! ## Addresses -/

/-- Validity as the comparison of spec/20_memory.md R72. -/
@[simp] theorem State.validAddr_iff (s : State) (a : U16) : s.validAddr a = true ↔ a.toNat < s.cfg.memSize := by
  simp [State.validAddr]

theorem memRead_valid {a : U16} {s : State} (h : a.toNat < s.cfg.memSize) :
    memRead a s = .ok (Memory.read s.mem a.toNat, s.record (.read a (Memory.read s.mem a.toNat))) := by
  simp [memRead, h]

theorem memRead_invalid {a : U16} {s : State} (h : s.cfg.memSize ≤ a.toNat) : memRead a s = .error a := by
  simp [memRead, Nat.not_lt.2 h]

theorem memWrite_valid {a : U16} {v : U8} {s : State} (h : a.toNat < s.cfg.memSize) :
    memWrite a v s = .ok ({ s with mem := Memory.write s.mem a.toNat v }.record (.write a v)) := by
  simp [memWrite, h]

theorem memWrite_invalid {a : U16} {v : U8} {s : State} (h : s.cfg.memSize ≤ a.toNat) : memWrite a v s = .error a := by
  simp [memWrite, Nat.not_lt.2 h]

/-! ## Operands -/

/-- The address a source operand reads, if it reads memory. -/
def Src.addr (x : Src) (s : State) : Option U16 :=
  match x with
  | .ind p => some (s.pair p)
  | .abs nn => some nn
  | .reg _ => none
  | .imm _ => none

/-- The value of a source operand when nothing is out of range. -/
def Src.value (x : Src) (s : State) : U8 :=
  match x with
  | .reg r => s.reg r
  | .ind p => Memory.read s.mem (s.pair p).toNat
  | .abs nn => Memory.read s.mem nn.toNat
  | .imm n => n

/-- The accesses of reading a source operand. -/
def Src.reads (x : Src) (s : State) : List Access :=
  match x.addr s with
  | some a => [.read a (x.value s)]
  | none => []

/-- The state with the given accesses recorded. -/
def State.recordAll (s : State) (xs : List Access) : State :=
  { s with out := { s.out with accesses := s.out.accesses ++ xs } }

/-- No address of the operand is out of range. -/
def Src.Valid (x : Src) (s : State) : Prop :=
  ∀ a, x.addr s = some a → a.toNat < s.cfg.memSize

/-- Reading a source operand that is in range: its value, with its accesses recorded (spec/30_encoding.md R105). -/
theorem srcVal_valid {x : Src} {s : State} (h : x.Valid s) :
    srcVal x s = .ok (x.value s, s.recordAll (x.reads s)) := by
  cases x with
  | reg r => simp [srcVal, Src.addr, Src.value, Src.reads, State.recordAll]
  | imm n => simp [srcVal, Src.addr, Src.value, Src.reads, State.recordAll]
  | ind p => exact memRead_valid (h _ rfl)
  | abs nn => exact memRead_valid (h _ rfl)

/-- Reading a source operand that is out of range. -/
theorem srcVal_invalid {x : Src} {s : State} {a : U16} (hx : x.addr s = some a) (h : s.cfg.memSize ≤ a.toNat) :
    srcVal x s = .error a := by
  cases x with
  | reg r => cases hx
  | imm n => cases hx
  | ind p => cases hx; exact memRead_invalid h
  | abs nn => cases hx; exact memRead_invalid h

/-- The address a destination operand writes, if it writes memory. -/
def Dst.addr (d : Dst) (s : State) : Option U16 :=
  match d with
  | .ind p => some (s.pair p)
  | .abs nn => some nn
  | .reg _ => none

/-- The store to a destination operand when nothing is out of range. -/
def Dst.put (d : Dst) (v : U8) (s : State) : State :=
  match d with
  | .reg r => s.setReg r v
  | .ind p => { s with mem := Memory.write s.mem (s.pair p).toNat v }.record (.write (s.pair p) v)
  | .abs nn => { s with mem := Memory.write s.mem nn.toNat v }.record (.write nn v)

/-- No address of the operand is out of range. -/
def Dst.Valid (d : Dst) (s : State) : Prop :=
  ∀ a, d.addr s = some a → a.toNat < s.cfg.memSize

/-- Storing to a destination operand that is in range (R105). -/
theorem dstStore_valid {d : Dst} {v : U8} {s : State} (h : d.Valid s) : dstStore d v s = .ok (d.put v s) := by
  cases d with
  | reg r => rfl
  | ind p => exact memWrite_valid (h _ rfl)
  | abs nn => exact memWrite_valid (h _ rfl)

/-- Storing to a destination operand that is out of range. -/
theorem dstStore_invalid {d : Dst} {v : U8} {s : State} {a : U16} (hd : d.addr s = some a) (h : s.cfg.memSize ≤ a.toNat) :
    dstStore d v s = .error a := by
  cases d with
  | reg r => cases hd
  | ind p => cases hd; exact memWrite_invalid h
  | abs nn => cases hd; exact memWrite_invalid h

/-- Recording accesses leaves the operands where they were. -/
@[simp] theorem Src.addr_quiet (x : Src) (s : State) : x.addr s.quiet = x.addr s := by
  cases x <;> simp [Src.addr]

@[simp] theorem Src.value_quiet (x : Src) (s : State) : x.value s.quiet = x.value s := by
  cases x <;> simp [Src.value]

@[simp] theorem Src.reads_quiet (x : Src) (s : State) : x.reads s.quiet = x.reads s := by
  simp [Src.reads]

@[simp] theorem State.recordAll_pair (s : State) (xs : List Access) (p : Pair) : (s.recordAll xs).pair p = s.pair p := by
  cases p <;> rfl

@[simp] theorem State.recordAll_reg (s : State) (xs : List Access) (r : Reg) : (s.recordAll xs).reg r = s.reg r := by
  cases r <;> rfl

@[simp] theorem State.recordAll_cfg (s : State) (xs : List Access) : (s.recordAll xs).cfg = s.cfg := rfl

@[simp] theorem State.recordAll_mem (s : State) (xs : List Access) : (s.recordAll xs).mem = s.mem := rfl

@[simp] theorem Dst.addr_recordAll (d : Dst) (s : State) (xs : List Access) : d.addr (s.recordAll xs) = d.addr s := by
  cases d <;> simp [Dst.addr]

@[simp] theorem Dst.addr_quiet (d : Dst) (s : State) : d.addr s.quiet = d.addr s := by
  cases d <;> simp [Dst.addr]

/-! ## Commit -/

/-- A step of a legal word completes, or takes MemOutOfRange with nothing else changed (spec/60_exceptions.md R264). -/
theorem commit_cases {w : Di32} {s t : State} {r : Except U16 State} (h : commit w s r = .next t) :
    (∃ u, r = .ok u ∧ t = u.complete) ∨ (∃ a, r = .error a ∧ t = s.takeFault .memOutOfRange a w) := by
  cases r with
  | ok u =>
    simp only [commit, Host.Outcome.next.injEq] at h
    exact .inl ⟨u, rfl, h.symm⟩
  | error a =>
    simp only [commit, Host.Outcome.next.injEq] at h
    exact .inr ⟨a, rfl, h.symm⟩

/-! ## The shapes -/

theorem Src.Valid.quiet {x : Src} {s : State} (h : x.Valid s) : x.Valid s.quiet := by
  simpa [Src.Valid] using h

/-- One source and an effect on registers, in range. -/
theorem withSource_valid {w : Di32} {x : Src} {f : State → U8 → State} {s : State} (h : x.Valid s) :
    withSource w x f s = .next (f (s.quiet.recordAll (x.reads s)) (x.value s)).complete := by
  simp [withSource, srcVal_valid h.quiet, commit, Except.bind]

/-- One source and an effect on registers, out of range. -/
theorem withSource_invalid {w : Di32} {x : Src} {f : State → U8 → State} {s : State} {a : U16} (hx : x.addr s = some a)
    (h : s.cfg.memSize ≤ a.toNat) : withSource w x f s = .next (s.takeFault .memOutOfRange a w) := by
  simp [withSource, srcVal_invalid (s := s.quiet) (by simpa using hx) h, commit, Except.bind]

/-- A move with both operands in range. -/
theorem move_valid {w : Di32} {d : Dst} {x : Src} {s : State} (hx : x.Valid s) (hd : d.Valid s) :
    move w d x s = .next (d.put (x.value s) (s.quiet.recordAll (x.reads s))).complete := by
  have hd' : d.Valid (s.quiet.recordAll (x.reads s)) := by simpa [Dst.Valid] using hd
  simp [move, srcVal_valid hx.quiet, dstStore_valid hd', commit, Except.bind]

/-- A move whose source is out of range. -/
theorem move_source_invalid {w : Di32} {d : Dst} {x : Src} {s : State} {a : U16} (hx : x.addr s = some a)
    (h : s.cfg.memSize ≤ a.toNat) : move w d x s = .next (s.takeFault .memOutOfRange a w) := by
  simp [move, srcVal_invalid (s := s.quiet) (by simpa using hx) h, commit, Except.bind]

/-- A move whose source is in range and whose destination is not. -/
theorem move_destination_invalid {w : Di32} {d : Dst} {x : Src} {s : State} {a : U16} (hx : x.Valid s)
    (hd : d.addr s = some a) (h : s.cfg.memSize ≤ a.toNat) :
    move w d x s = .next (s.takeFault .memOutOfRange a w) := by
  simp [move, srcVal_valid hx.quiet, dstStore_invalid (s := s.quiet.recordAll (x.reads s)) (by simpa using hd) h, commit,
    Except.bind]

/-- A push with both addresses in range (spec/41_stack.md R171). -/
theorem pushWord_valid {w : Di32} {v : U16} {s : State} (h0 : s.sp.toNat < s.cfg.memSize)
    (h1 : (s.sp - 1).toNat < s.cfg.memSize) :
    pushWord w v s = .next
      { s with
        mem := Memory.write (Memory.write s.mem s.sp.toNat (hiByte v)) (s.sp - 1).toNat (loByte v)
        sp := s.sp - 2
        out := { execDone := true, accesses := [.write s.sp (hiByte v), .write (s.sp - 1) (loByte v)] } } := by
  rw [pushWord, memWrite_valid (s := s.quiet) h0, Except.bind, memWrite_valid]
  · rfl
  · exact h1

/-- A push whose first address is out of range. -/
theorem pushWord_first_invalid {w : Di32} {v : U16} {s : State} (h : s.cfg.memSize ≤ s.sp.toNat) :
    pushWord w v s = .next (s.takeFault .memOutOfRange s.sp w) := by
  rw [pushWord, memWrite_invalid (s := s.quiet) h]
  rfl

/-- A push whose second address alone is out of range. -/
theorem pushWord_second_invalid {w : Di32} {v : U16} {s : State} (h0 : s.sp.toNat < s.cfg.memSize)
    (h : s.cfg.memSize ≤ (s.sp - 1).toNat) : pushWord w v s = .next (s.takeFault .memOutOfRange (s.sp - 1) w) := by
  rw [pushWord, memWrite_valid (s := s.quiet) h0, Except.bind, memWrite_invalid]
  · rfl
  · exact h

/-- A pop with both addresses in range (R173). -/
theorem popWord_valid {w : Di32} {put : State → U16 → State} {s : State} (h0 : (s.sp + 1).toNat < s.cfg.memSize)
    (h1 : (s.sp + 2).toNat < s.cfg.memSize) :
    popWord w put s = .next
      { put
          { s with
            out :=
              { execDone := false
                accesses :=
                  [.read (s.sp + 1) (Memory.read s.mem (s.sp + 1).toNat),
                    .read (s.sp + 2) (Memory.read s.mem (s.sp + 2).toNat)] } }
          (joinBytes (Memory.read s.mem (s.sp + 2).toNat) (Memory.read s.mem (s.sp + 1).toNat)) with
        sp := s.sp + 2 }.complete := by
  rw [popWord, memRead_valid (s := s.quiet) h0, Except.bind, memRead_valid]
  · rfl
  · exact h1

/-- A pop whose first address is out of range. -/
theorem popWord_first_invalid {w : Di32} {put : State → U16 → State} {s : State}
    (h : s.cfg.memSize ≤ (s.sp + 1).toNat) : popWord w put s = .next (s.takeFault .memOutOfRange (s.sp + 1) w) := by
  rw [popWord, memRead_invalid (s := s.quiet) h]
  rfl

/-- A pop whose second address alone is out of range. -/
theorem popWord_second_invalid {w : Di32} {put : State → U16 → State} {s : State}
    (h0 : (s.sp + 1).toNat < s.cfg.memSize) (h : s.cfg.memSize ≤ (s.sp + 2).toNat) :
    popWord w put s = .next (s.takeFault .memOutOfRange (s.sp + 2) w) := by
  rw [popWord, memRead_valid (s := s.quiet) h0, Except.bind, memRead_invalid]
  · rfl
  · exact h

/-- `commit` always answers a next state. -/
theorem commit_next (w : Di32) (s : State) (r : Except U16 State) : ∃ t, commit w s r = .next t := by
  cases r <;> exact ⟨_, rfl⟩

end Sys2Proof.Machine
end

