-- ==== Sys2Proof/Laws/PerInstr.lean ====
section
/-! SUPPORT. One lemma per constructor of `Instr`: the tags the encoder gives it satisfy a row of spec/30_encoding.md R109. -/

namespace Sys2Proof.Laws

/-- The instruction's own tags are legal. -/
def LegalTags.Statement (i : Instr) : Prop :=
  i.wellFormed = true

/-- An immediate's K has a zero high byte (R106). -/
theorem LegalTags.immediate_lt (n : U8) : (0#8 ++ n : U16).toNat < 256 := by
  rw [BitVec.toNat_append]
  simpa using n.isLt

/-- Legality of the forms that carry an immediate. -/
theorem LegalTags.of_immediate (i : Instr) (n : U8) (hk : i.tagged.k = 0#8 ++ n)
    (hx : i.tagged.family.admitsX i.tagged.x = true) (hy : i.tagged.family.admitsY i.tagged.y = true)
    (hi : i.tagged.x = .imm ∨ i.tagged.y = .imm) : LegalTags.Statement i := by
  have hlt := LegalTags.immediate_lt n
  simp only [LegalTags.Statement, Instr.wellFormed, Tagged.wellFormed, Tagged.illegality, Tagged.literalFault, hx, hy, hk, hi,
    hlt, if_true, ite_self, Bool.not_true, Bool.false_eq_true, if_false]
  rfl

theorem LegalTags.ldnA (n : U8) : LegalTags.Statement (.ldnA n) :=
  LegalTags.of_immediate _ n rfl rfl rfl (Or.inr rfl)

theorem LegalTags.ldnB (n : U8) : LegalTags.Statement (.ldnB n) :=
  LegalTags.of_immediate _ n rfl rfl rfl (Or.inr rfl)

theorem LegalTags.ldnC (n : U8) : LegalTags.Statement (.ldnC n) :=
  LegalTags.of_immediate _ n rfl rfl rfl (Or.inr rfl)

theorem LegalTags.ldnD (n : U8) : LegalTags.Statement (.ldnD n) :=
  LegalTags.of_immediate _ n rfl rfl rfl (Or.inr rfl)

theorem LegalTags.ldnE (n : U8) : LegalTags.Statement (.ldnE n) :=
  LegalTags.of_immediate _ n rfl rfl rfl (Or.inr rfl)

theorem LegalTags.ldnH (n : U8) : LegalTags.Statement (.ldnH n) :=
  LegalTags.of_immediate _ n rfl rfl rfl (Or.inr rfl)

theorem LegalTags.ldnL (n : U8) : LegalTags.Statement (.ldnL n) :=
  LegalTags.of_immediate _ n rfl rfl rfl (Or.inr rfl)

theorem LegalTags.ldnPairBC (n : U8) : LegalTags.Statement (.ldnPairBC n) :=
  LegalTags.of_immediate _ n rfl rfl rfl (Or.inr rfl)

theorem LegalTags.ldnPairDE (n : U8) : LegalTags.Statement (.ldnPairDE n) :=
  LegalTags.of_immediate _ n rfl rfl rfl (Or.inr rfl)

theorem LegalTags.ldnPairHL (n : U8) : LegalTags.Statement (.ldnPairHL n) :=
  LegalTags.of_immediate _ n rfl rfl rfl (Or.inr rfl)

theorem LegalTags.ldrrAFromA : LegalTags.Statement .ldrrAFromA := rfl

theorem LegalTags.ldrrAFromB : LegalTags.Statement .ldrrAFromB := rfl

theorem LegalTags.ldrrAFromC : LegalTags.Statement .ldrrAFromC := rfl

theorem LegalTags.ldrrAFromD : LegalTags.Statement .ldrrAFromD := rfl

theorem LegalTags.ldrrAFromE : LegalTags.Statement .ldrrAFromE := rfl

theorem LegalTags.ldrrAFromH : LegalTags.Statement .ldrrAFromH := rfl

theorem LegalTags.ldrrAFromL : LegalTags.Statement .ldrrAFromL := rfl

theorem LegalTags.ldrrAFromMemHL : LegalTags.Statement .ldrrAFromMemHL := rfl

theorem LegalTags.ldrrBFromA : LegalTags.Statement .ldrrBFromA := rfl

theorem LegalTags.ldrrBFromB : LegalTags.Statement .ldrrBFromB := rfl

theorem LegalTags.ldrrBFromC : LegalTags.Statement .ldrrBFromC := rfl

theorem LegalTags.ldrrBFromD : LegalTags.Statement .ldrrBFromD := rfl

theorem LegalTags.ldrrBFromE : LegalTags.Statement .ldrrBFromE := rfl

theorem LegalTags.ldrrBFromH : LegalTags.Statement .ldrrBFromH := rfl

theorem LegalTags.ldrrBFromL : LegalTags.Statement .ldrrBFromL := rfl

theorem LegalTags.ldrrBFromMemHL : LegalTags.Statement .ldrrBFromMemHL := rfl

theorem LegalTags.ldrrCFromA : LegalTags.Statement .ldrrCFromA := rfl

theorem LegalTags.ldrrCFromB : LegalTags.Statement .ldrrCFromB := rfl

theorem LegalTags.ldrrCFromC : LegalTags.Statement .ldrrCFromC := rfl

theorem LegalTags.ldrrCFromD : LegalTags.Statement .ldrrCFromD := rfl

theorem LegalTags.ldrrCFromE : LegalTags.Statement .ldrrCFromE := rfl

theorem LegalTags.ldrrCFromH : LegalTags.Statement .ldrrCFromH := rfl

theorem LegalTags.ldrrCFromL : LegalTags.Statement .ldrrCFromL := rfl

theorem LegalTags.ldrrCFromMemHL : LegalTags.Statement .ldrrCFromMemHL := rfl

theorem LegalTags.ldrrDFromA : LegalTags.Statement .ldrrDFromA := rfl

theorem LegalTags.ldrrDFromB : LegalTags.Statement .ldrrDFromB := rfl

theorem LegalTags.ldrrDFromC : LegalTags.Statement .ldrrDFromC := rfl

theorem LegalTags.ldrrDFromD : LegalTags.Statement .ldrrDFromD := rfl

theorem LegalTags.ldrrDFromE : LegalTags.Statement .ldrrDFromE := rfl

theorem LegalTags.ldrrDFromH : LegalTags.Statement .ldrrDFromH := rfl

theorem LegalTags.ldrrDFromL : LegalTags.Statement .ldrrDFromL := rfl

theorem LegalTags.ldrrDFromMemHL : LegalTags.Statement .ldrrDFromMemHL := rfl

theorem LegalTags.ldrrEFromA : LegalTags.Statement .ldrrEFromA := rfl

theorem LegalTags.ldrrEFromB : LegalTags.Statement .ldrrEFromB := rfl

theorem LegalTags.ldrrEFromC : LegalTags.Statement .ldrrEFromC := rfl

theorem LegalTags.ldrrEFromD : LegalTags.Statement .ldrrEFromD := rfl

theorem LegalTags.ldrrEFromE : LegalTags.Statement .ldrrEFromE := rfl

theorem LegalTags.ldrrEFromH : LegalTags.Statement .ldrrEFromH := rfl

theorem LegalTags.ldrrEFromL : LegalTags.Statement .ldrrEFromL := rfl

theorem LegalTags.ldrrEFromMemHL : LegalTags.Statement .ldrrEFromMemHL := rfl

theorem LegalTags.ldrrHFromA : LegalTags.Statement .ldrrHFromA := rfl

theorem LegalTags.ldrrHFromB : LegalTags.Statement .ldrrHFromB := rfl

theorem LegalTags.ldrrHFromC : LegalTags.Statement .ldrrHFromC := rfl

theorem LegalTags.ldrrHFromD : LegalTags.Statement .ldrrHFromD := rfl

theorem LegalTags.ldrrHFromE : LegalTags.Statement .ldrrHFromE := rfl

theorem LegalTags.ldrrHFromH : LegalTags.Statement .ldrrHFromH := rfl

theorem LegalTags.ldrrHFromL : LegalTags.Statement .ldrrHFromL := rfl

theorem LegalTags.ldrrHFromMemHL : LegalTags.Statement .ldrrHFromMemHL := rfl

theorem LegalTags.ldrrLFromA : LegalTags.Statement .ldrrLFromA := rfl

theorem LegalTags.ldrrLFromB : LegalTags.Statement .ldrrLFromB := rfl

theorem LegalTags.ldrrLFromC : LegalTags.Statement .ldrrLFromC := rfl

theorem LegalTags.ldrrLFromD : LegalTags.Statement .ldrrLFromD := rfl

theorem LegalTags.ldrrLFromE : LegalTags.Statement .ldrrLFromE := rfl

theorem LegalTags.ldrrLFromH : LegalTags.Statement .ldrrLFromH := rfl

theorem LegalTags.ldrrLFromL : LegalTags.Statement .ldrrLFromL := rfl

theorem LegalTags.ldrrLFromMemHL : LegalTags.Statement .ldrrLFromMemHL := rfl

theorem LegalTags.ldrrMemHLFromA : LegalTags.Statement .ldrrMemHLFromA := rfl

theorem LegalTags.ldrrMemHLFromB : LegalTags.Statement .ldrrMemHLFromB := rfl

theorem LegalTags.ldrrMemHLFromC : LegalTags.Statement .ldrrMemHLFromC := rfl

theorem LegalTags.ldrrMemHLFromD : LegalTags.Statement .ldrrMemHLFromD := rfl

theorem LegalTags.ldrrMemHLFromE : LegalTags.Statement .ldrrMemHLFromE := rfl

theorem LegalTags.ldrrMemHLFromH : LegalTags.Statement .ldrrMemHLFromH := rfl

theorem LegalTags.ldrrMemHLFromL : LegalTags.Statement .ldrrMemHLFromL := rfl

theorem LegalTags.ldrrMemHLFromMemHL : LegalTags.Statement .ldrrMemHLFromMemHL := rfl

theorem LegalTags.ldaFromA : LegalTags.Statement .ldaFromA := rfl

theorem LegalTags.ldaFromB : LegalTags.Statement .ldaFromB := rfl

theorem LegalTags.ldaFromC : LegalTags.Statement .ldaFromC := rfl

theorem LegalTags.ldaFromD : LegalTags.Statement .ldaFromD := rfl

theorem LegalTags.ldaFromE : LegalTags.Statement .ldaFromE := rfl

theorem LegalTags.ldaFromH : LegalTags.Statement .ldaFromH := rfl

theorem LegalTags.ldaFromL : LegalTags.Statement .ldaFromL := rfl

theorem LegalTags.ldaFromMemBC : LegalTags.Statement .ldaFromMemBC := rfl

theorem LegalTags.ldaFromMemDE : LegalTags.Statement .ldaFromMemDE := rfl

theorem LegalTags.ldaFromMemHL : LegalTags.Statement .ldaFromMemHL := rfl

theorem LegalTags.ldaFromAbs (nn : U16) : LegalTags.Statement (.ldaFromAbs nn) := rfl

theorem LegalTags.ldaFromImm (n : U8) : LegalTags.Statement (.ldaFromImm n) :=
  LegalTags.of_immediate _ n rfl rfl rfl (Or.inr rfl)

theorem LegalTags.ldfaToA : LegalTags.Statement .ldfaToA := rfl

theorem LegalTags.ldfaToB : LegalTags.Statement .ldfaToB := rfl

theorem LegalTags.ldfaToC : LegalTags.Statement .ldfaToC := rfl

theorem LegalTags.ldfaToD : LegalTags.Statement .ldfaToD := rfl

theorem LegalTags.ldfaToE : LegalTags.Statement .ldfaToE := rfl

theorem LegalTags.ldfaToH : LegalTags.Statement .ldfaToH := rfl

theorem LegalTags.ldfaToL : LegalTags.Statement .ldfaToL := rfl

theorem LegalTags.ldfaToMemBC : LegalTags.Statement .ldfaToMemBC := rfl

theorem LegalTags.ldfaToMemDE : LegalTags.Statement .ldfaToMemDE := rfl

theorem LegalTags.ldfaToMemHL : LegalTags.Statement .ldfaToMemHL := rfl

theorem LegalTags.ldfaToAbs (nn : U16) : LegalTags.Statement (.ldfaToAbs nn) := rfl

theorem LegalTags.pushBC : LegalTags.Statement .pushBC := rfl

theorem LegalTags.pushDE : LegalTags.Statement .pushDE := rfl

theorem LegalTags.pushHL : LegalTags.Statement .pushHL := rfl

theorem LegalTags.pushAF : LegalTags.Statement .pushAF := rfl

theorem LegalTags.popBC : LegalTags.Statement .popBC := rfl

theorem LegalTags.popDE : LegalTags.Statement .popDE := rfl

theorem LegalTags.popHL : LegalTags.Statement .popHL := rfl

theorem LegalTags.popAF : LegalTags.Statement .popAF := rfl

theorem LegalTags.addA : LegalTags.Statement .addA := rfl

theorem LegalTags.addB : LegalTags.Statement .addB := rfl

theorem LegalTags.addC : LegalTags.Statement .addC := rfl

theorem LegalTags.addD : LegalTags.Statement .addD := rfl

theorem LegalTags.addE : LegalTags.Statement .addE := rfl

theorem LegalTags.addH : LegalTags.Statement .addH := rfl

theorem LegalTags.addL : LegalTags.Statement .addL := rfl

theorem LegalTags.addMemHL : LegalTags.Statement .addMemHL := rfl

theorem LegalTags.addImm (n : U8) : LegalTags.Statement (.addImm n) :=
  LegalTags.of_immediate _ n rfl rfl rfl (Or.inr rfl)

theorem LegalTags.adcA : LegalTags.Statement .adcA := rfl

theorem LegalTags.adcB : LegalTags.Statement .adcB := rfl

theorem LegalTags.adcC : LegalTags.Statement .adcC := rfl

theorem LegalTags.adcD : LegalTags.Statement .adcD := rfl

theorem LegalTags.adcE : LegalTags.Statement .adcE := rfl

theorem LegalTags.adcH : LegalTags.Statement .adcH := rfl

theorem LegalTags.adcL : LegalTags.Statement .adcL := rfl

theorem LegalTags.adcMemHL : LegalTags.Statement .adcMemHL := rfl

theorem LegalTags.adcImm (n : U8) : LegalTags.Statement (.adcImm n) :=
  LegalTags.of_immediate _ n rfl rfl rfl (Or.inr rfl)

theorem LegalTags.subA : LegalTags.Statement .subA := rfl

theorem LegalTags.subB : LegalTags.Statement .subB := rfl

theorem LegalTags.subC : LegalTags.Statement .subC := rfl

theorem LegalTags.subD : LegalTags.Statement .subD := rfl

theorem LegalTags.subE : LegalTags.Statement .subE := rfl

theorem LegalTags.subH : LegalTags.Statement .subH := rfl

theorem LegalTags.subL : LegalTags.Statement .subL := rfl

theorem LegalTags.subMemHL : LegalTags.Statement .subMemHL := rfl

theorem LegalTags.subImm (n : U8) : LegalTags.Statement (.subImm n) :=
  LegalTags.of_immediate _ n rfl rfl rfl (Or.inr rfl)

theorem LegalTags.sbcA : LegalTags.Statement .sbcA := rfl

theorem LegalTags.sbcB : LegalTags.Statement .sbcB := rfl

theorem LegalTags.sbcC : LegalTags.Statement .sbcC := rfl

theorem LegalTags.sbcD : LegalTags.Statement .sbcD := rfl

theorem LegalTags.sbcE : LegalTags.Statement .sbcE := rfl

theorem LegalTags.sbcH : LegalTags.Statement .sbcH := rfl

theorem LegalTags.sbcL : LegalTags.Statement .sbcL := rfl

theorem LegalTags.sbcMemHL : LegalTags.Statement .sbcMemHL := rfl

theorem LegalTags.sbcImm (n : U8) : LegalTags.Statement (.sbcImm n) :=
  LegalTags.of_immediate _ n rfl rfl rfl (Or.inr rfl)

theorem LegalTags.cpA : LegalTags.Statement .cpA := rfl

theorem LegalTags.cpB : LegalTags.Statement .cpB := rfl

theorem LegalTags.cpC : LegalTags.Statement .cpC := rfl

theorem LegalTags.cpD : LegalTags.Statement .cpD := rfl

theorem LegalTags.cpE : LegalTags.Statement .cpE := rfl

theorem LegalTags.cpH : LegalTags.Statement .cpH := rfl

theorem LegalTags.cpL : LegalTags.Statement .cpL := rfl

theorem LegalTags.cpMemHL : LegalTags.Statement .cpMemHL := rfl

theorem LegalTags.cpImm (n : U8) : LegalTags.Statement (.cpImm n) :=
  LegalTags.of_immediate _ n rfl rfl rfl (Or.inr rfl)

theorem LegalTags.incA : LegalTags.Statement .incA := rfl

theorem LegalTags.incB : LegalTags.Statement .incB := rfl

theorem LegalTags.incC : LegalTags.Statement .incC := rfl

theorem LegalTags.incD : LegalTags.Statement .incD := rfl

theorem LegalTags.incE : LegalTags.Statement .incE := rfl

theorem LegalTags.incH : LegalTags.Statement .incH := rfl

theorem LegalTags.incL : LegalTags.Statement .incL := rfl

theorem LegalTags.incPairHL : LegalTags.Statement .incPairHL := rfl

theorem LegalTags.andA : LegalTags.Statement .andA := rfl

theorem LegalTags.andB : LegalTags.Statement .andB := rfl

theorem LegalTags.andC : LegalTags.Statement .andC := rfl

theorem LegalTags.andD : LegalTags.Statement .andD := rfl

theorem LegalTags.andE : LegalTags.Statement .andE := rfl

theorem LegalTags.andH : LegalTags.Statement .andH := rfl

theorem LegalTags.andL : LegalTags.Statement .andL := rfl

theorem LegalTags.andMemHL : LegalTags.Statement .andMemHL := rfl

theorem LegalTags.andImm (n : U8) : LegalTags.Statement (.andImm n) :=
  LegalTags.of_immediate _ n rfl rfl rfl (Or.inr rfl)

theorem LegalTags.orA : LegalTags.Statement .orA := rfl

theorem LegalTags.orB : LegalTags.Statement .orB := rfl

theorem LegalTags.orC : LegalTags.Statement .orC := rfl

theorem LegalTags.orD : LegalTags.Statement .orD := rfl

theorem LegalTags.orE : LegalTags.Statement .orE := rfl

theorem LegalTags.orH : LegalTags.Statement .orH := rfl

theorem LegalTags.orL : LegalTags.Statement .orL := rfl

theorem LegalTags.orMemHL : LegalTags.Statement .orMemHL := rfl

theorem LegalTags.orImm (n : U8) : LegalTags.Statement (.orImm n) :=
  LegalTags.of_immediate _ n rfl rfl rfl (Or.inr rfl)

theorem LegalTags.xorA : LegalTags.Statement .xorA := rfl

theorem LegalTags.xorB : LegalTags.Statement .xorB := rfl

theorem LegalTags.xorC : LegalTags.Statement .xorC := rfl

theorem LegalTags.xorD : LegalTags.Statement .xorD := rfl

theorem LegalTags.xorE : LegalTags.Statement .xorE := rfl

theorem LegalTags.xorH : LegalTags.Statement .xorH := rfl

theorem LegalTags.xorL : LegalTags.Statement .xorL := rfl

theorem LegalTags.xorMemHL : LegalTags.Statement .xorMemHL := rfl

theorem LegalTags.xorImm (n : U8) : LegalTags.Statement (.xorImm n) :=
  LegalTags.of_immediate _ n rfl rfl rfl (Or.inr rfl)

theorem LegalTags.add16BC : LegalTags.Statement .add16BC := rfl

theorem LegalTags.add16DE : LegalTags.Statement .add16DE := rfl

theorem LegalTags.add16HL : LegalTags.Statement .add16HL := rfl

theorem LegalTags.add16SP : LegalTags.Statement .add16SP := rfl

end Sys2Proof.Laws
end

