-- ==== Sys2Proof/Laws/Shape.lean ====
section
/-! SUPPORT. The ten shapes of instruction: every meaning is one of them, read off the instruction's own tags, so that a fact
about all 189 instructions is ten facts about shapes. -/

namespace Sys2Proof.Machine

/-- The eight families that work on A and one source. -/
inductive AluOp
  | add | adc | sub | sbc | cp | and | or | xor
  deriving DecidableEq, Repr

/-- The register effect of a family. -/
def AluOp.effect : AluOp → State → U8 → State
  | .add => State.addA
  | .adc => State.adcA
  | .sub => State.subA
  | .sbc => State.sbcA
  | .cp => State.cpA
  | .and => State.andA
  | .or => State.orA
  | .xor => State.xorA

/-- The shapes. -/
inductive Shape
  | move (d : Dst) (x : Src)
  | loadPair (p : Pair) (n : U8)
  | alu (op : AluOp) (x : Src)
  | pushPair (p : Pair)
  | pushAf
  | popPair (p : Pair)
  | popAf
  | incReg (r : Reg)
  | incHL
  | add16 (x : Src16)
  deriving DecidableEq, Repr

/-- What a shape does, for the word `w`. -/
def Shape.run (w : Di32) (s : State) : Shape → Result
  | .move d x => Sys2Proof.Machine.move w d x s
  | .loadPair p n => onRegisters (State.loadPair p n) s
  | .alu op x => withSource w x op.effect s
  | .pushPair p => pushWord w (s.pair p) s
  | .pushAf => pushWord w s.af s
  | .popPair p => popWord w (fun t v => t.setPair p v) s
  | .popAf => popWord w State.setAf s
  | .incReg r => onRegisters (State.incReg r) s
  | .incHL => onRegisters State.incHL s
  | .add16 x => onRegisters (State.add16 x) s

/-- The 8-bit source of a slot. -/
def srcOf (k : U16) : Selector → Option Src
  | .reg r => some (.reg r)
  | .ind p => some (.ind p)
  | .abs => some (.abs k)
  | .imm => some (.imm (loByte k))
  | _ => none

/-- The 8-bit destination of a slot. -/
def dstOf (k : U16) : Selector → Option Dst
  | .reg r => some (.reg r)
  | .ind p => some (.ind p)
  | .abs => some (.abs k)
  | _ => none

/-- The shape of a tagged value. -/
def shapeOf (t : Tagged) : Option Shape :=
  match t.family with
  | .ldn =>
    match t.x with
    | .reg r => some (.move (.reg r) (.imm (loByte t.k)))
    | .pair p => some (.loadPair p (loByte t.k))
    | _ => none
  | .ldrr => (dstOf t.k t.x).bind fun d => (srcOf t.k t.y).map (.move d)
  | .lda => (srcOf t.k t.y).map (.move (.reg .A))
  | .ldfa => (dstOf t.k t.x).map fun d => .move d (.reg .A)
  | .push =>
    match t.y with
    | .pair p => some (.pushPair p)
    | .af => some .pushAf
    | _ => none
  | .pop =>
    match t.x with
    | .pair p => some (.popPair p)
    | .af => some .popAf
    | _ => none
  | .add => (srcOf t.k t.y).map (.alu .add)
  | .adc => (srcOf t.k t.y).map (.alu .adc)
  | .sub => (srcOf t.k t.y).map (.alu .sub)
  | .sbc => (srcOf t.k t.y).map (.alu .sbc)
  | .cp => (srcOf t.k t.y).map (.alu .cp)
  | .and => (srcOf t.k t.y).map (.alu .and)
  | .or => (srcOf t.k t.y).map (.alu .or)
  | .xor => (srcOf t.k t.y).map (.alu .xor)
  | .inc =>
    match t.x with
    | .reg r => some (.incReg r)
    | .pair _ => some .incHL
    | _ => none
  | .add16 =>
    match t.y with
    | .pair p => some (.add16 (.pair p))
    | .sp => some (.add16 .sp)
    | _ => none

/-- The low byte of an immediate's K is the immediate (spec/30_encoding.md R106). -/
@[simp] theorem loByte_immediate (n : U8) : loByte (0#8 ++ n) = n := by
  apply BitVec.eq_of_toNat_eq
  rw [loByte, BitVec.extractLsb'_toNat, BitVec.toNat_append]
  simpa using n.isLt

/-- Every meaning is the shape its tags give. -/
theorem exec_shape (i : Instr) (s : State) :
    ∃ x, shapeOf i.tagged = some x ∧ exec i s = x.run (encode i) s := by
  cases i <;> first
    | exact ⟨_, rfl, rfl⟩
    | exact ⟨_, congrArg (fun m => some (Shape.alu _ (.imm m))) (loByte_immediate _), rfl⟩
    | exact ⟨_, congrArg (fun m => some (Shape.move _ (.imm m))) (loByte_immediate _), rfl⟩
    | exact ⟨_, congrArg (fun m => some (Shape.loadPair _ m)) (loByte_immediate _), rfl⟩

end Sys2Proof.Machine
end

