-- ==== Sys2Proof/Tests/Slice0.lean ====
section
/-! SUPPORT. The model's own tests: what WellFormed refuses; words written out from the spec's encodings and what they decode
to; single steps with the end states of spec/95_test_vectors.md (each test is named after its vector); the host's side; and for
each obligation with hypotheses a witness that meets them, clause by clause, at the boundary. -/

namespace Sys2Proof.Tests

open Sys2Proof Sys2Proof.Machine Sys2Proof.Claims

/-! ## Helpers -/

/-- Reset, with the full machine's memory and the policy `retain`. -/
def full : State := State.reset

/-- Reset, with a memory of 8192 bytes. -/
def small : State := { State.reset with cfg := { memSize := 8192, fLow := .retain } }

/-- The state a result goes on to, if it does. -/
def next : Result → Option State
  | .next t => some t
  | .fault _ => none
  | .refused _ => none

/-- Presented with the word, the machine completes one step in the state given, having made these accesses. -/
def runs (s : State) (w : Nat) (t : State) (xs : List Access) : Bool :=
  next (step (s.withFetchWord 32 w)) == some { t with out := { execDone := true, accesses := xs } }

/-- Presented with the word, the machine sets the latch and changes nothing else. -/
def traps (s : State) (w : Nat) (code : BitVec 2) (addr : U16) : Bool :=
  next (step (s.withFetchWord 32 w)) ==
    some { s with fault := { valid := true, code := code, addr := addr, word := BitVec.ofNat 32 w } }

/-! ## WellFormed: each check refuses an ill-formed term -/

theorem test_refuses_unused_slot :
    ({ family := .add, x := .reg .A, y := .reg .B, k := 0 } : Tagged).illegality = some .unusedSlot := by decide

theorem test_refuses_operand_kind :
    ({ family := .ldn, x := .sp, y := .imm, k := 5 } : Tagged).illegality = some .operandKind := by decide

theorem test_refuses_operand_kind_of_source :
    ({ family := .ldrr, x := .reg .A, y := .ind .BC, k := 0 } : Tagged).illegality = some .operandKind := by decide

theorem test_refuses_immediate_high :
    ({ family := .ldn, x := .reg .A, y := .imm, k := 0x100 } : Tagged).illegality = some .immediateHigh := by decide

theorem test_refuses_unused_literal :
    ({ family := .add, x := .none, y := .reg .B, k := 1 } : Tagged).illegality = some .unusedLiteral := by decide

theorem test_ill_formed_is_not_well_formed :
    ({ family := .inc, x := .ind .HL, y := .none, k := 0 } : Tagged).wellFormed = false := by decide

/-! ## Decode: illegal words (R113; vectors LN6, LN7, LR10, LA16, ST15, AD16, I10, I11, W8, X1 to X6) -/

/-- Why a word is illegal. -/
def why (w : Di32) : Option Illegal :=
  match decode w with
  | .ok _ => none
  | .error e => some e

theorem test_illegal_families : [0x00000000#32, 0xFFFFFFFF#32, 0x44000000#32].map why =
    [some .familyCode, some .familyCode, some .familyCode] := by decide

theorem test_illegal_selectors : [0x1C0D0000#32, 0x1C0F0000#32, 0x1C150000#32, 0x07EC0000#32].map why =
    [some .selectorCode, some .selectorCode, some .selectorCode, some .selectorCode] := by decide

theorem test_illegal_slots : [0x1C220000#32, 0x10210000#32].map why = [some .unusedSlot, some .unusedSlot] := by decide

theorem test_illegal_kinds :
    [0x066C0005#32, 0x08290000#32, 0x11800007#32, 0x14130000#32, 0x1C100000#32, 0x31000000#32, 0x32000000#32, 0x40140000#32].map
      why = List.replicate 8 (some .operandKind) := by decide

theorem test_illegal_literals : [0x042C0100#32, 0x1C0CFF05#32, 0x1C020001#32, 0x14100001#32].map why =
    [some .immediateHigh, some .immediateHigh, some .unusedLiteral, some .unusedLiteral] := by decide

/-! ## Decode: one word of each family, its fields written out bit by bit from R100, R102 and R104 -/

theorem test_fields_ldn : decode (0b000001#6 ++ 0b00111#5 ++ 0b01100#5 ++ 0x0012#16) = .ok (.ldnL 0x12) := by decide

theorem test_fields_ldrr : decode (0b000010#6 ++ 0b00010#5 ++ 0b01000#5 ++ 0x0000#16) = .ok (.ldrrBFromMemHL) := by decide

theorem test_fields_lda : decode (0b000011#6 ++ 0b00000#5 ++ 0b01011#5 ++ 0xC000#16) = .ok (.ldaFromAbs 0xC000) := by decide

theorem test_fields_ldfa : decode (0b000100#6 ++ 0b01010#5 ++ 0b00000#5 ++ 0x0000#16) = .ok (.ldfaToMemDE) := by decide

theorem test_fields_push : decode (0b000101#6 ++ 0b00000#5 ++ 0b10000#5 ++ 0x0000#16) = .ok (.pushBC) := by decide

theorem test_fields_pop : decode (0b000110#6 ++ 0b10100#5 ++ 0b00000#5 ++ 0x0000#16) = .ok (.popAF) := by decide

theorem test_fields_add : decode (0b000111#6 ++ 0b00000#5 ++ 0b01100#5 ++ 0x0005#16) = .ok (.addImm 5) := by decide

theorem test_fields_adc : decode (0b001000#6 ++ 0b00000#5 ++ 0b00101#5 ++ 0x0000#16) = .ok (.adcE) := by decide

theorem test_fields_sub : decode (0b001001#6 ++ 0b00000#5 ++ 0b01000#5 ++ 0x0000#16) = .ok (.subMemHL) := by decide

theorem test_fields_sbc : decode (0b001010#6 ++ 0b00000#5 ++ 0b00110#5 ++ 0x0000#16) = .ok (.sbcH) := by decide

theorem test_fields_cp : decode (0b001011#6 ++ 0b00000#5 ++ 0b01000#5 ++ 0x0000#16) = .ok (.cpMemHL) := by decide

theorem test_fields_inc : decode (0b001100#6 ++ 0b10010#5 ++ 0b00000#5 ++ 0x0000#16) = .ok (.incPairHL) := by decide

theorem test_fields_and : decode (0b001101#6 ++ 0b00000#5 ++ 0b00011#5 ++ 0x0000#16) = .ok (.andC) := by decide

theorem test_fields_or : decode (0b001110#6 ++ 0b00000#5 ++ 0b00100#5 ++ 0x0000#16) = .ok (.orD) := by decide

theorem test_fields_xor : decode (0b001111#6 ++ 0b00000#5 ++ 0b00001#5 ++ 0x0000#16) = .ok (.xorA) := by decide

theorem test_fields_add16 : decode (0b010000#6 ++ 0b00000#5 ++ 0b10011#5 ++ 0x0000#16) = .ok (.add16SP) := by decide

/-! ## Decode: every row of spec/opcode_table.json, its match word with 0x5A for #n and 0xC0DE for nn -/

theorem test_decode_ldn :
    [
      0x042C005A, 0x044C005A, 0x046C005A, 0x048C005A, 0x04AC005A, 0x04CC005A, 0x04EC005A, 0x060C005A, 0x062C005A, 0x064C005A].map (decodeTableWord 32) = [
      some (.ldnA 0x5A), some (.ldnB 0x5A), some (.ldnC 0x5A), some (.ldnD 0x5A), some (.ldnE 0x5A), some (.ldnH 0x5A),
      some (.ldnL 0x5A), some (.ldnPairBC 0x5A), some (.ldnPairDE 0x5A), some (.ldnPairHL 0x5A)] := by
  decide

theorem test_decode_ldrr_a :
    [
      0x08210000, 0x08220000, 0x08230000, 0x08240000, 0x08250000, 0x08260000, 0x08270000, 0x08280000].map (decodeTableWord 32) = [
      some .ldrrAFromA, some .ldrrAFromB, some .ldrrAFromC, some .ldrrAFromD, some .ldrrAFromE, some .ldrrAFromH,
      some .ldrrAFromL, some .ldrrAFromMemHL] := by
  decide

theorem test_decode_ldrr_b :
    [
      0x08410000, 0x08420000, 0x08430000, 0x08440000, 0x08450000, 0x08460000, 0x08470000, 0x08480000].map (decodeTableWord 32) = [
      some .ldrrBFromA, some .ldrrBFromB, some .ldrrBFromC, some .ldrrBFromD, some .ldrrBFromE, some .ldrrBFromH,
      some .ldrrBFromL, some .ldrrBFromMemHL] := by
  decide

theorem test_decode_ldrr_c :
    [
      0x08610000, 0x08620000, 0x08630000, 0x08640000, 0x08650000, 0x08660000, 0x08670000, 0x08680000].map (decodeTableWord 32) = [
      some .ldrrCFromA, some .ldrrCFromB, some .ldrrCFromC, some .ldrrCFromD, some .ldrrCFromE, some .ldrrCFromH,
      some .ldrrCFromL, some .ldrrCFromMemHL] := by
  decide

theorem test_decode_ldrr_d :
    [
      0x08810000, 0x08820000, 0x08830000, 0x08840000, 0x08850000, 0x08860000, 0x08870000, 0x08880000].map (decodeTableWord 32) = [
      some .ldrrDFromA, some .ldrrDFromB, some .ldrrDFromC, some .ldrrDFromD, some .ldrrDFromE, some .ldrrDFromH,
      some .ldrrDFromL, some .ldrrDFromMemHL] := by
  decide

theorem test_decode_ldrr_e :
    [
      0x08A10000, 0x08A20000, 0x08A30000, 0x08A40000, 0x08A50000, 0x08A60000, 0x08A70000, 0x08A80000].map (decodeTableWord 32) = [
      some .ldrrEFromA, some .ldrrEFromB, some .ldrrEFromC, some .ldrrEFromD, some .ldrrEFromE, some .ldrrEFromH,
      some .ldrrEFromL, some .ldrrEFromMemHL] := by
  decide

theorem test_decode_ldrr_h :
    [
      0x08C10000, 0x08C20000, 0x08C30000, 0x08C40000, 0x08C50000, 0x08C60000, 0x08C70000, 0x08C80000].map (decodeTableWord 32) = [
      some .ldrrHFromA, some .ldrrHFromB, some .ldrrHFromC, some .ldrrHFromD, some .ldrrHFromE, some .ldrrHFromH,
      some .ldrrHFromL, some .ldrrHFromMemHL] := by
  decide

theorem test_decode_ldrr_l :
    [
      0x08E10000, 0x08E20000, 0x08E30000, 0x08E40000, 0x08E50000, 0x08E60000, 0x08E70000, 0x08E80000].map (decodeTableWord 32) = [
      some .ldrrLFromA, some .ldrrLFromB, some .ldrrLFromC, some .ldrrLFromD, some .ldrrLFromE, some .ldrrLFromH,
      some .ldrrLFromL, some .ldrrLFromMemHL] := by
  decide

theorem test_decode_ldrr_mem :
    [
      0x09010000, 0x09020000, 0x09030000, 0x09040000, 0x09050000, 0x09060000, 0x09070000, 0x09080000].map (decodeTableWord 32) = [
      some .ldrrMemHLFromA, some .ldrrMemHLFromB, some .ldrrMemHLFromC, some .ldrrMemHLFromD, some .ldrrMemHLFromE,
      some .ldrrMemHLFromH, some .ldrrMemHLFromL, some .ldrrMemHLFromMemHL] := by
  decide

theorem test_decode_lda :
    [
      0x0C010000, 0x0C020000, 0x0C030000, 0x0C040000, 0x0C050000, 0x0C060000, 0x0C070000, 0x0C090000, 0x0C0A0000,
      0x0C080000, 0x0C0BC0DE, 0x0C0C005A].map (decodeTableWord 32) = [
      some .ldaFromA, some .ldaFromB, some .ldaFromC, some .ldaFromD, some .ldaFromE, some .ldaFromH, some .ldaFromL,
      some .ldaFromMemBC, some .ldaFromMemDE, some .ldaFromMemHL, some (.ldaFromAbs 0xC0DE), some (.ldaFromImm 0x5A)] := by
  decide

theorem test_decode_ldfa :
    [
      0x10200000, 0x10400000, 0x10600000, 0x10800000, 0x10A00000, 0x10C00000, 0x10E00000, 0x11200000, 0x11400000,
      0x11000000, 0x1160C0DE].map (decodeTableWord 32) = [
      some .ldfaToA, some .ldfaToB, some .ldfaToC, some .ldfaToD, some .ldfaToE, some .ldfaToH, some .ldfaToL,
      some .ldfaToMemBC, some .ldfaToMemDE, some .ldfaToMemHL, some (.ldfaToAbs 0xC0DE)] := by
  decide

theorem test_decode_push :
    [
      0x14100000, 0x14110000, 0x14120000, 0x14140000].map (decodeTableWord 32) = [
      some .pushBC, some .pushDE, some .pushHL, some .pushAF] := by
  decide

theorem test_decode_pop :
    [
      0x1A000000, 0x1A200000, 0x1A400000, 0x1A800000].map (decodeTableWord 32) = [
      some .popBC, some .popDE, some .popHL, some .popAF] := by
  decide

theorem test_decode_add :
    [
      0x1C010000, 0x1C020000, 0x1C030000, 0x1C040000, 0x1C050000, 0x1C060000, 0x1C070000, 0x1C080000, 0x1C0C005A].map (decodeTableWord 32) = [
      some .addA, some .addB, some .addC, some .addD, some .addE, some .addH, some .addL, some .addMemHL,
      some (.addImm 0x5A)] := by
  decide

theorem test_decode_adc :
    [
      0x20010000, 0x20020000, 0x20030000, 0x20040000, 0x20050000, 0x20060000, 0x20070000, 0x20080000, 0x200C005A].map (decodeTableWord 32) = [
      some .adcA, some .adcB, some .adcC, some .adcD, some .adcE, some .adcH, some .adcL, some .adcMemHL,
      some (.adcImm 0x5A)] := by
  decide

theorem test_decode_sub :
    [
      0x24010000, 0x24020000, 0x24030000, 0x24040000, 0x24050000, 0x24060000, 0x24070000, 0x24080000, 0x240C005A].map (decodeTableWord 32) = [
      some .subA, some .subB, some .subC, some .subD, some .subE, some .subH, some .subL, some .subMemHL,
      some (.subImm 0x5A)] := by
  decide

theorem test_decode_sbc :
    [
      0x28010000, 0x28020000, 0x28030000, 0x28040000, 0x28050000, 0x28060000, 0x28070000, 0x28080000, 0x280C005A].map (decodeTableWord 32) = [
      some .sbcA, some .sbcB, some .sbcC, some .sbcD, some .sbcE, some .sbcH, some .sbcL, some .sbcMemHL,
      some (.sbcImm 0x5A)] := by
  decide

theorem test_decode_cp :
    [
      0x2C010000, 0x2C020000, 0x2C030000, 0x2C040000, 0x2C050000, 0x2C060000, 0x2C070000, 0x2C080000, 0x2C0C005A].map (decodeTableWord 32) = [
      some .cpA, some .cpB, some .cpC, some .cpD, some .cpE, some .cpH, some .cpL, some .cpMemHL, some (.cpImm 0x5A)] := by
  decide

theorem test_decode_inc :
    [
      0x30200000, 0x30400000, 0x30600000, 0x30800000, 0x30A00000, 0x30C00000, 0x30E00000, 0x32400000].map (decodeTableWord 32) = [
      some .incA, some .incB, some .incC, some .incD, some .incE, some .incH, some .incL, some .incPairHL] := by
  decide

theorem test_decode_and :
    [
      0x34010000, 0x34020000, 0x34030000, 0x34040000, 0x34050000, 0x34060000, 0x34070000, 0x34080000, 0x340C005A].map (decodeTableWord 32) = [
      some .andA, some .andB, some .andC, some .andD, some .andE, some .andH, some .andL, some .andMemHL,
      some (.andImm 0x5A)] := by
  decide

theorem test_decode_or :
    [
      0x38010000, 0x38020000, 0x38030000, 0x38040000, 0x38050000, 0x38060000, 0x38070000, 0x38080000, 0x380C005A].map (decodeTableWord 32) = [
      some .orA, some .orB, some .orC, some .orD, some .orE, some .orH, some .orL, some .orMemHL, some (.orImm 0x5A)] := by
  decide

theorem test_decode_xor :
    [
      0x3C010000, 0x3C020000, 0x3C030000, 0x3C040000, 0x3C050000, 0x3C060000, 0x3C070000, 0x3C080000, 0x3C0C005A].map (decodeTableWord 32) = [
      some .xorA, some .xorB, some .xorC, some .xorD, some .xorE, some .xorH, some .xorL, some .xorMemHL,
      some (.xorImm 0x5A)] := by
  decide

theorem test_decode_add16 :
    [
      0x40100000, 0x40110000, 0x40120000, 0x40130000].map (decodeTableWord 32) = [
      some .add16BC, some .add16DE, some .add16HL, some .add16SP] := by
  decide

/-! ## Steps: the vectors of spec/95_test_vectors.md, sections 2.1 to 2.10 -/

/-- Vector LN1: `LDN(L, #0x12)`, one step. -/
theorem test_ln1 :
    let s : State := { full with h := 0x34 }
    runs s 0x04EC0012 { s with l := 0x12 } [] = true := by
  decide

/-- Vector LN3: `LDN(BC, #0x7F)`, one step. -/
theorem test_ln3 :
    let s : State := { full with b := 0xAB, c := 0xCD, f := 0xF0 }
    runs s 0x060C007F { s with b := 0x00, c := 0x7F } [] = true := by
  decide

/-- Vector LN4: `LDN(HL, #0x00)`, one step. -/
theorem test_ln4 :
    let s : State := { full with h := 0xFF, l := 0xFF }
    runs s 0x064C0000 { s with h := 0x00, l := 0x00 } [] = true := by
  decide

/-- Vector LR1: `LDRR(A, B)`, one step. -/
theorem test_lr1 :
    let s : State := { full with b := 0x42, f := 0xA5 }
    runs s 0x08220000 { s with a := 0x42 } [] = true := by
  decide

/-- Vector LR2: `LDRR(E, E)`, one step. -/
theorem test_lr2 :
    let s : State := { full with e := 0x99 }
    runs s 0x08A50000 s [] = true := by
  decide

/-- Vector LR4: `LDRR(H, (HL))`, one step. -/
theorem test_lr4 :
    let s : State := { full with h := 0x01, l := 0x23, mem := [(0x0123, 0x5A)] }
    runs s 0x08C80000 { s with h := 0x5A } [.read 0x0123 0x5A] = true := by
  decide

/-- Vector LR6: `LDRR((HL), L)`, one step. -/
theorem test_lr6 :
    let s : State := { full with h := 0x01, l := 0x23 }
    runs s 0x09070000 { s with mem := [(0x0123, 0x23)] } [.write 0x0123 0x23] = true := by
  decide

/-- Vector LR7: `LDRR((HL), (HL))`, one step. -/
theorem test_lr7 :
    let s : State := { full with h := 0x01, l := 0x23, mem := [(0x0123, 0x5A)] }
    runs s 0x09080000 s [.read 0x0123 0x5A, .write 0x0123 0x5A] = true := by
  decide

/-- Vector LR8: `LDRR((HL), (HL))`, one step. -/
theorem test_lr8 :
    traps { small with h := 0x20, l := 0x00 } 0x09080000 1 0x2000 = true := by
  decide

/-- Vector LR9: `LDRR((HL), A)`, one step. -/
theorem test_lr9 :
    let s : State := { small with h := 0x1F, l := 0xFF, a := 0xC3 }
    runs s 0x09010000 { s with mem := [(0x1FFF, 0xC3)] } [.write 0x1FFF 0xC3] = true := by
  decide

/-- Vector LA1: `LDA(C)`, one step. -/
theorem test_la1 :
    let s : State := { full with a := 0x11, c := 0x22 }
    runs s 0x0C030000 { s with a := 0x22 } [] = true := by
  decide

/-- Vector LA3: `LDA((BC))`, one step. -/
theorem test_la3 :
    let s : State := { full with b := 0x10, c := 0x00, a := 0xEE, mem := [(0x1000, 0x3C)] }
    runs s 0x0C090000 { s with a := 0x3C } [.read 0x1000 0x3C] = true := by
  decide

/-- Vector LA4: `LDA((DE))`, one step. -/
theorem test_la4 :
    let s : State := { small with d := 0x1F, e := 0xFF, mem := [(0x1FFF, 0x80)] }
    runs s 0x0C0A0000 { s with a := 0x80 } [.read 0x1FFF 0x80] = true := by
  decide

/-- Vector LA5: `LDA((DE))`, one step. -/
theorem test_la5 :
    traps { small with d := 0x20, e := 0x00, a := 0x55 } 0x0C0A0000 1 0x2000 = true := by
  decide

/-- Vector LA7: `LDA((0xC000))`, one step. -/
theorem test_la7 :
    let s : State := { full with a := 0x01, mem := [(0xC000, 0x9A)] }
    runs s 0x0C0BC000 { s with a := 0x9A } [.read 0xC000 0x9A] = true := by
  decide

/-- Vector LA8: `LDA((0xC000))`, one step. -/
theorem test_la8 :
    traps { small with a := 0x01 } 0x0C0BC000 1 0xC000 = true := by
  decide

/-- Vector LA9: `LDA(#0x00)`, one step. -/
theorem test_la9 :
    let s : State := { full with a := 0x01, f := 0xF0 }
    runs s 0x0C0C0000 { s with a := 0x00 } [] = true := by
  decide

/-- Vector LA10: `LDFA(D)`, one step. -/
theorem test_la10 :
    let s : State := { full with a := 0x5A }
    runs s 0x10800000 { s with d := 0x5A } [] = true := by
  decide

/-- Vector LA11: `LDFA((HL))`, one step. -/
theorem test_la11 :
    let s : State := { full with a := 0x5A, h := 0x00, l := 0x10 }
    runs s 0x11000000 { s with mem := [(0x0010, 0x5A)] } [.write 0x0010 0x5A] = true := by
  decide

/-- Vector LA12: `LDFA((BC))`, one step. -/
theorem test_la12 :
    let s : State := { full with a := 0x5A, b := 0xFF, c := 0xFF }
    runs s 0x11200000 { s with mem := [(0xFFFF, 0x5A)] } [.write 0xFFFF 0x5A] = true := by
  decide

/-- Vector LA13: `LDFA((BC))`, one step. -/
theorem test_la13 :
    traps { small with a := 0x5A, b := 0xFF, c := 0xFF } 0x11200000 1 0xFFFF = true := by
  decide

/-- Vector LA14: `LDFA((0x1FFF))`, one step. -/
theorem test_la14 :
    let s : State := { small with a := 0xA7 }
    runs s 0x11601FFF { s with mem := [(0x1FFF, 0xA7)] } [.write 0x1FFF 0xA7] = true := by
  decide

/-- Vector LA15: `LDFA((0x2000))`, one step. -/
theorem test_la15 :
    traps { small with a := 0xA7 } 0x11602000 1 0x2000 = true := by
  decide

/-- Vector ST1: `PUSH(BC)`, one step. -/
theorem test_st1 :
    let s : State := { small with sp := 0x1FFF, b := 0xBE, c := 0xEF }
    runs s 0x14100000 { s with sp := 0x1FFD, mem := [(0x1FFE, 0xEF), (0x1FFF, 0xBE)] } [.write 0x1FFF 0xBE, .write 0x1FFE 0xEF] = true := by
  decide

/-- Vector ST4: `PUSH(AF)`, one step. -/
theorem test_st4 :
    let s : State := { full with sp := 0x0100, a := 0x12, f := 0x9F }
    runs s 0x14140000 { s with sp := 0x00FE, mem := [(0x00FF, 0x9F), (0x0100, 0x12)] } [.write 0x0100 0x12, .write 0x00FF 0x9F] = true := by
  decide

/-- Vector ST5: `POP(AF)`, one step. -/
theorem test_st5 :
    let s : State := { full with sp := 0x0FFD, mem := [(0x0FFE, 0x9F), (0x0FFF, 0x12)] }
    runs s 0x1A800000 { s with a := 0x12, f := 0x9F, sp := 0x0FFF } [.read 0x0FFE 0x9F, .read 0x0FFF 0x12] = true := by
  decide

/-- Vector ST6: `POP(AF)`, one step. -/
theorem test_st6 :
    let s : State := { full with cfg := { memSize := 65536, fLow := .clear }, sp := 0x0FFD, mem := [(0x0FFE, 0x9F), (0x0FFF, 0x12)] }
    runs s 0x1A800000 { s with a := 0x12, f := 0x90, sp := 0x0FFF } [.read 0x0FFE 0x9F, .read 0x0FFF 0x12] = true := by
  decide

/-- Vector ST7: `PUSH(HL)`, one step. -/
theorem test_st7 :
    let s : State := { full with h := 0xCA, l := 0xFE }
    runs s 0x14120000 { s with sp := 0xFFFE, mem := [(0x0000, 0xCA), (0xFFFF, 0xFE)] } [.write 0x0000 0xCA, .write 0xFFFF 0xFE] = true := by
  decide

/-- Vector ST8: `PUSH(HL)`, one step. -/
theorem test_st8 :
    traps { small with h := 0xCA, l := 0xFE } 0x14120000 1 0xFFFF = true := by
  decide

/-- Vector ST9: `PUSH(DE)`, one step. -/
theorem test_st9 :
    let s : State := { full with sp := 0x0001, d := 0x12, e := 0x34 }
    runs s 0x14110000 { s with sp := 0xFFFF, mem := [(0x0000, 0x34), (0x0001, 0x12)] } [.write 0x0001 0x12, .write 0x0000 0x34] = true := by
  decide

/-- Vector ST10: `PUSH(DE)`, one step. -/
theorem test_st10 :
    traps { small with sp := 0x2000, d := 0x12, e := 0x34 } 0x14110000 1 0x2000 = true := by
  decide

/-- Vector ST11: `POP(HL)`, one step. -/
theorem test_st11 :
    let s : State := { full with sp := 0xFFFE, mem := [(0x0000, 0x12), (0xFFFF, 0x34)] }
    runs s 0x1A400000 { s with h := 0x12, l := 0x34, sp := 0x0000 } [.read 0xFFFF 0x34, .read 0x0000 0x12] = true := by
  decide

/-- Vector ST12: `POP(HL)`, one step. -/
theorem test_st12 :
    let s : State := { full with sp := 0xFFFF, mem := [(0x0000, 0x34), (0x0001, 0x12)] }
    runs s 0x1A400000 { s with h := 0x12, l := 0x34, sp := 0x0001 } [.read 0x0000 0x34, .read 0x0001 0x12] = true := by
  decide

/-- Vector ST13: `POP(DE)`, one step. -/
theorem test_st13 :
    traps { small with sp := 0x1FFE, d := 0xAA, e := 0xAA, mem := [(0x1FFF, 0x77)] } 0x1A200000 1 0x2000 = true := by
  decide

/-- Vector ST14: `POP(DE)`, one step. -/
theorem test_st14 :
    traps { small with sp := 0x1FFF, d := 0xAA, e := 0xAA } 0x1A200000 1 0x2000 = true := by
  decide

/-- Vector AD1: `ADD(B)`, one step. -/
theorem test_ad1 :
    let s : State := { full with a := 0x3A, b := 0xC6 }
    runs s 0x1C020000 { s with a := 0x00, f := 0xB0 } [] = true := by
  decide

/-- Vector AD2: `ADD(#0xFF)`, one step. -/
theorem test_ad2 :
    let s : State := { full with a := 0x3C }
    runs s 0x1C0C00FF { s with a := 0x3B, f := 0x30 } [] = true := by
  decide

/-- Vector AD6: `ADD(#0x10)`, one step. -/
theorem test_ad6 :
    let s : State := { full with a := 0xF0 }
    runs s 0x1C0C0010 { s with a := 0x00, f := 0x90 } [] = true := by
  decide

/-- Vector AD3: `ADD(A)`, one step. -/
theorem test_ad3 :
    let s : State := { full with a := 0x88, f := 0x4F }
    runs s 0x1C010000 { s with a := 0x10, f := 0x30 } [] = true := by
  decide

/-- Vector AD4: `ADD((HL))`, one step. -/
theorem test_ad4 :
    let s : State := { full with a := 0x3C, h := 0x01, l := 0x00, mem := [(0x0100, 0x12)] }
    runs s 0x1C080000 { s with a := 0x4E } [.read 0x0100 0x12] = true := by
  decide

/-- Vector AD8: `ADD((HL))`, one step. -/
theorem test_ad8 :
    traps { small with a := 0x01, h := 0x20, l := 0x00 } 0x1C080000 1 0x2000 = true := by
  decide

/-- Vector AD9: `ADC(#0x00)`, one step. -/
theorem test_ad9 :
    let s : State := { full with a := 0x0F, f := 0x10 }
    runs s 0x200C0000 { s with a := 0x10, f := 0x20 } [] = true := by
  decide

/-- Vector AD10: `ADC(#0x00)`, one step. -/
theorem test_ad10 :
    let s : State := { full with a := 0xFF, f := 0x10 }
    runs s 0x200C0000 { s with a := 0x00, f := 0xB0 } [] = true := by
  decide

/-- Vector AD12: `ADC(A)`, one step. -/
theorem test_ad12 :
    let s : State := { full with a := 0x80, f := 0x10 }
    runs s 0x20010000 { s with a := 0x01 } [] = true := by
  decide

/-- Vector AD14: `ADC(E)`, one step. -/
theorem test_ad14 :
    let s : State := { full with a := 0x0E, f := 0x90, e := 0x01 }
    runs s 0x20050000 { s with a := 0x10, f := 0x20 } [] = true := by
  decide

/-- Vector AD15: `ADC((HL))`, one step. -/
theorem test_ad15 :
    let s : State := { full with a := 0x0F, f := 0x10, h := 0x02, l := 0x00 }
    runs s 0x20080000 { s with a := 0x10, f := 0x20 } [.read 0x0200 0x00] = true := by
  decide

/-- Vector SB2: `SUB(#0x0F)`, one step. -/
theorem test_sb2 :
    let s : State := { full with a := 0x3E }
    runs s 0x240C000F { s with a := 0x2F, f := 0x60 } [] = true := by
  decide

/-- Vector SB3: `SUB(#0x40)`, one step. -/
theorem test_sb3 :
    let s : State := { full with a := 0x3E }
    runs s 0x240C0040 { s with a := 0xFE, f := 0x50 } [] = true := by
  decide

/-- Vector SB4: `SUB(A)`, one step. -/
theorem test_sb4 :
    let s : State := { full with a := 0x77, f := 0x1F }
    runs s 0x24010000 { s with a := 0x00, f := 0xC0 } [] = true := by
  decide

/-- Vector SB6: `SUB((HL))`, one step. -/
theorem test_sb6 :
    let s : State := { full with a := 0x3E, h := 0x03, l := 0x00, mem := [(0x0300, 0x40)] }
    runs s 0x24080000 { s with a := 0xFE, f := 0x50 } [.read 0x0300 0x40] = true := by
  decide

/-- Vector SB8: `SBC(#0x00)`, one step. -/
theorem test_sb8 :
    let s : State := { full with a := 0x00, f := 0x10 }
    runs s 0x280C0000 { s with a := 0xFF, f := 0x70 } [] = true := by
  decide

/-- Vector SB9: `SBC(#0xFF)`, one step. -/
theorem test_sb9 :
    let s : State := { full with a := 0x00, f := 0x10 }
    runs s 0x280C00FF { s with f := 0xF0 } [] = true := by
  decide

/-- Vector SB10: `SBC(A)`, one step. -/
theorem test_sb10 :
    let s : State := { full with a := 0x77, f := 0x10 }
    runs s 0x28010000 { s with a := 0xFF, f := 0x70 } [] = true := by
  decide

/-- Vector SB11: `SBC(A)`, one step. -/
theorem test_sb11 :
    let s : State := { full with a := 0x77, f := 0x00 }
    runs s 0x28010000 { s with a := 0x00, f := 0xC0 } [] = true := by
  decide

/-- Vector SB12: `SBC(H)`, one step. -/
theorem test_sb12 :
    let s : State := { full with a := 0x3B, f := 0x10, h := 0x2A }
    runs s 0x28060000 { s with a := 0x10, f := 0x40 } [] = true := by
  decide

/-- Vector SB13: `SBC((HL))`, one step. -/
theorem test_sb13 :
    let s : State := { full with a := 0x10, f := 0x10, h := 0x00, l := 0x40 }
    runs s 0x28080000 { s with a := 0x0F, f := 0x60 } [.read 0x0040 0x00] = true := by
  decide

/-- Vector SB14: `CP(B)`, one step. -/
theorem test_sb14 :
    let s : State := { full with a := 0x3C, b := 0x2F }
    runs s 0x2C020000 { s with f := 0x60 } [] = true := by
  decide

/-- Vector SB15: `CP(#0x3C)`, one step. -/
theorem test_sb15 :
    let s : State := { full with a := 0x3C }
    runs s 0x2C0C003C { s with f := 0xC0 } [] = true := by
  decide

/-- Vector SB16: `CP((HL))`, one step. -/
theorem test_sb16 :
    let s : State := { full with a := 0x3C, h := 0x00, l := 0x50, mem := [(0x0050, 0x40)] }
    runs s 0x2C080000 { s with f := 0x50 } [.read 0x0050 0x40] = true := by
  decide

/-- Vector SB17: `CP(A)`, one step. -/
theorem test_sb17 :
    let s : State := { full with a := 0x9A, f := 0x3F }
    runs s 0x2C010000 { s with f := 0xC0 } [] = true := by
  decide

/-- Vector SB18: `CP(#0x01)`, one step. -/
theorem test_sb18 :
    let s : State := { full with a := 0x00 }
    runs s 0x2C0C0001 { s with f := 0x70 } [] = true := by
  decide

/-- Vector I1: `INC(B)`, one step. -/
theorem test_i1 :
    let s : State := { full with b := 0xFF, f := 0x50 }
    runs s 0x30400000 { s with b := 0x00, f := 0xA0 } [] = true := by
  decide

/-- Vector I2: `INC(A)`, one step. -/
theorem test_i2 :
    let s : State := { full with a := 0x0F }
    runs s 0x30200000 { s with a := 0x10, f := 0x20 } [] = true := by
  decide

/-- Vector I3: `INC(L)`, one step. -/
theorem test_i3 :
    let s : State := { full with l := 0x00, f := 0xFF }
    runs s 0x30E00000 { s with l := 0x01, f := 0x00 } [] = true := by
  decide

/-- Vector I4: `INC(L)`, one step. -/
theorem test_i4 :
    let s : State := { full with h := 0x12, l := 0xFF }
    runs s 0x30E00000 { s with l := 0x00, f := 0xA0 } [] = true := by
  decide

/-- Vector I5: `INC(HL)`, one step. -/
theorem test_i5 :
    let s : State := { full with h := 0xFF, l := 0xFF }
    runs s 0x32400000 { s with h := 0x00, l := 0x00, f := 0xA0 } [] = true := by
  decide

/-- Vector I7: `INC(HL)`, one step. -/
theorem test_i7 :
    let s : State := { full with h := 0x12, l := 0x0F, f := 0xD0 }
    runs s 0x32400000 { s with l := 0x10, f := 0x20 } [] = true := by
  decide

/-- Vector LG1: `AND(#0x3F)`, one step. -/
theorem test_lg1 :
    let s : State := { full with a := 0x5A, f := 0x5F }
    runs s 0x340C003F { s with a := 0x1A, f := 0x20 } [] = true := by
  decide

/-- Vector LG2: `AND(#0x00)`, one step. -/
theorem test_lg2 :
    let s : State := { full with a := 0x5A }
    runs s 0x340C0000 { s with a := 0x00, f := 0xA0 } [] = true := by
  decide

/-- Vector LG3: `AND(A)`, one step. -/
theorem test_lg3 :
    let s : State := { full with a := 0x00, f := 0x10 }
    runs s 0x34010000 { s with f := 0xA0 } [] = true := by
  decide

/-- Vector LG4: `AND((HL))`, one step. -/
theorem test_lg4 :
    let s : State := { full with a := 0xF0, h := 0x00, l := 0x20, mem := [(0x0020, 0x3C)] }
    runs s 0x34080000 { s with a := 0x30, f := 0x20 } [.read 0x0020 0x3C] = true := by
  decide

/-- Vector LG5: `AND(C)`, one step. -/
theorem test_lg5 :
    let s : State := { full with a := 0xFF, c := 0x81 }
    runs s 0x34030000 { s with a := 0x81, f := 0x20 } [] = true := by
  decide

/-- Vector LG6: `OR(#0x0F)`, one step. -/
theorem test_lg6 :
    let s : State := { full with a := 0x5A, f := 0xFF }
    runs s 0x380C000F { s with a := 0x5F, f := 0x00 } [] = true := by
  decide

/-- Vector LG7: `OR(A)`, one step. -/
theorem test_lg7 :
    let s : State := { full with a := 0x00, f := 0x70 }
    runs s 0x38010000 { s with f := 0x80 } [] = true := by
  decide

/-- Vector LG8: `OR((HL))`, one step. -/
theorem test_lg8 :
    let s : State := { full with a := 0x0F, h := 0x00, l := 0x21, mem := [(0x0021, 0xF0)] }
    runs s 0x38080000 { s with a := 0xFF } [.read 0x0021 0xF0] = true := by
  decide

/-- Vector LG9: `OR(D)`, one step. -/
theorem test_lg9 :
    let s : State := { full with a := 0x00, d := 0x00, f := 0x10 }
    runs s 0x38040000 { s with f := 0x80 } [] = true := by
  decide

/-- Vector LG10: `XOR(#0x0F)`, one step. -/
theorem test_lg10 :
    let s : State := { full with a := 0xFF, f := 0xFF }
    runs s 0x3C0C000F { s with a := 0xF0, f := 0x00 } [] = true := by
  decide

/-- Vector LG11: `XOR(A)`, one step. -/
theorem test_lg11 :
    let s : State := { full with a := 0xF0 }
    runs s 0x3C010000 { s with a := 0x00, f := 0x80 } [] = true := by
  decide

/-- Vector LG12: `XOR((HL))`, one step. -/
theorem test_lg12 :
    let s : State := { full with a := 0xA5, h := 0x00, l := 0x40, mem := [(0x0040, 0xA5)] }
    runs s 0x3C080000 { s with a := 0x00, f := 0x80 } [.read 0x0040 0xA5] = true := by
  decide

/-- Vector LG13: `XOR(E)`, one step. -/
theorem test_lg13 :
    let s : State := { full with a := 0x55, e := 0xFF }
    runs s 0x3C050000 { s with a := 0xAA } [] = true := by
  decide

/-- Vector LG14: `XOR((HL))`, one step. -/
theorem test_lg14 :
    traps { small with a := 0x01, h := 0xFF, l := 0xFF } 0x3C080000 1 0xFFFF = true := by
  decide

/-- Vector W1: `ADD16(BC)`, one step. -/
theorem test_w1 :
    let s : State := { full with f := 0x80, h := 0x00, l := 0x01, b := 0x00, c := 0x02 }
    runs s 0x40100000 { s with l := 0x03 } [] = true := by
  decide

/-- Vector W2: `ADD16(BC)`, one step. -/
theorem test_w2 :
    let s : State := { full with f := 0x00, h := 0xFF, l := 0xFF, b := 0x00, c := 0x01 }
    runs s 0x40100000 { s with h := 0x00, l := 0x00, f := 0x30 } [] = true := by
  decide

/-- Vector W3: `ADD16(DE)`, one step. -/
theorem test_w3 :
    let s : State := { full with f := 0xF0, h := 0x0F, l := 0xFF, d := 0x00, e := 0x01 }
    runs s 0x40110000 { s with h := 0x10, l := 0x00, f := 0xA0 } [] = true := by
  decide

/-- Vector W4: `ADD16(HL)`, one step. -/
theorem test_w4 :
    let s : State := { full with f := 0x4F, h := 0x88, l := 0x00 }
    runs s 0x40120000 { s with h := 0x10, f := 0x30 } [] = true := by
  decide

/-- Vector W5: `ADD16(SP)`, one step. -/
theorem test_w5 :
    let s : State := { full with h := 0x12, l := 0x34, sp := 0xF000 }
    runs s 0x40130000 { s with h := 0x02, f := 0x10 } [] = true := by
  decide

/-- Vector W6: `ADD16(DE)`, one step. -/
theorem test_w6 :
    let s : State := { full with h := 0xF0, l := 0x00, d := 0x10, e := 0x00 }
    runs s 0x40110000 { s with h := 0x00, f := 0x10 } [] = true := by
  decide

/-- Vector LN7: `illegal word`, an illegal word. -/
theorem test_ln7 :
    traps full 0x042C0100 2 0x0000 = true := by
  decide

/-- Vector X7: `illegal word`, an illegal word. -/
theorem test_x7 :
    traps { small with sp := 0x2000 } 0x14130000 2 0x0000 = true := by
  decide

/-! ## The host's side: vectors H1 to H8, reset, and the ways a step can stop -/

/-- The machine after one instant with a host write of `d` to the selector `sel`. -/
def written (s : State) (sel : BitVec 4) (d : U16) : Option State :=
  next (step { s with inputs := [.ports { rst := false, exec := none, hostWrite := some { sel := sel, data := d } }] })

/-- The full machine under the policy `clear`. -/
def clearing : State := { full with cfg := { memSize := 65536, fLow := .clear } }

theorem test_h1 : written full 8 0xBEEF = some { full with b := 0xBE, c := 0xEF } := by decide

theorem test_h2 : written full 11 0x12FF = some { full with a := 0x12, f := 0xFF } := by decide

theorem test_h3 : written clearing 11 0x12FF = some { clearing with a := 0x12, f := 0xF0 } := by decide

theorem test_h4 : written full 7 0x00AB = some { full with f := 0xAB } ∧
    written clearing 7 0x00AB = some { clearing with f := 0xA0 } := by decide

theorem test_h5 : written full 0 0x1234 = some { full with a := 0x34 } := by decide

theorem test_h6 : written full 12 0x1FFF = some { full with sp := 0x1FFF } := by decide

theorem test_h7 : written full 13 0x0150 = some { full with pc := 0x0150 } := by decide

theorem test_h8 : written full 14 0xFFFF = some full ∧ written full 15 0xFFFF = some full := by decide

/-- R51: reset wins past a word presented in the same instant. -/
theorem test_reset_wins :
    next (step { full with
      a := 1, inputs := [.ports { rst := true, exec := some 0x1C0C0005, hostWrite := none }] }) = some full := by decide

/-- R59: a FAULTED block takes no word. -/
theorem test_faulted_takes_no_word :
    next (step ({ full with fault := { valid := true, code := 2, addr := 0, word := 0 } }.withFetchWord 32 0x1C0C0005)) =
      none := by decide

/-- R293: reset in mid-step before the first access of a PUSH leaves memory as it was. -/
theorem test_reset_before_first_access :
    next (step { small with sp := 0x1FFF, b := 0xBE, inputs := [.abandoned 0x14100000 0] }) = some small := by decide

/-- A store of zero removes the entry: the memory is canonical. -/
theorem test_store_of_zero_is_unlisted :
    next (step { full with mem := [(5, 0x12), (6, 0x34)], inputs := [.memory 5 0] }) = some { full with mem := [(6, 0x34)] } := by
  decide

/-! ## Witnesses: for each obligation with hypotheses, values that meet them, clause by clause -/

/-- A state of the small machine at which each clause about (HL), (BC) and (DE) is at its last valid address. -/
def edge : State :=
  { small with a := 0x3C, b := 0x1F, c := 0xFF, d := 0x1F, e := 0xFF, h := 0x1F, l := 0xFF, f := 0x9F, sp := 0x1FFF,
               mem := [(0x1FFE, 0x34), (0x1FFF, 0x12)] }

/-- The same with every pair at the first invalid address. -/
def past : State :=
  { edge with b := 0x20, c := 0, d := 0x20, e := 0, h := 0x20, l := 0 }

theorem witness_DecodeOfEncodeIsTheInstruction :
    (Instr.ldnA 0xFF).wellFormed = true ∧ (Instr.ldaFromAbs 0xFFFF).wellFormed = true := by decide

theorem witness_EncodeOfDecodeIsTheWord : decode 0x0C0BFFFF = .ok (.ldaFromAbs 0xFFFF) ∧ decode 0x042C00FF = .ok (.ldnA 0xFF) := by
  decide

theorem witness_NoWordSelectsTwoOpcodeRows :
    ∃ row, opcodeTable[0]? = some row ∧ row.selects 0x042C0012 = true :=
  ⟨_, rfl, by decide⟩

theorem witness_last_valid_address : ∀ p, (edge.pair p).toNat < edge.cfg.memSize := by
  intro p
  cases p <;> decide

theorem witness_first_invalid_address : ∀ p, past.cfg.memSize ≤ (past.pair p).toNat := by
  intro p
  cases p <;> decide

theorem witness_LdrrLoadsRegisterFromMemory :
    (edge.pair .HL).toNat < edge.cfg.memSize ∧ past.cfg.memSize ≤ (past.pair .HL).toNat ∧
      ∃ t, exec .ldrrHFromMemHL edge = .next t ∧ t.h = 0x12 :=
  ⟨by decide, by decide, _, rfl, by decide⟩

theorem witness_LdrrStoresRegisterToMemory :
    (edge.pair .HL).toNat < edge.cfg.memSize ∧ past.cfg.memSize ≤ (past.pair .HL).toNat ∧
      ∃ t, exec .ldrrMemHLFromA edge = .next t ∧ byteAt t 0x1FFF = 0x3C :=
  ⟨by decide, by decide, _, rfl, by decide⟩

theorem witness_LdrrRewritesMemoryByte :
    (edge.pair .HL).toNat < edge.cfg.memSize ∧ past.cfg.memSize ≤ (past.pair .HL).toNat ∧
      ∃ t, exec .ldrrMemHLFromMemHL edge = .next t ∧ t.mem = edge.mem :=
  ⟨by decide, by decide, _, rfl, by decide⟩

theorem witness_LdaLoadsAccumulatorThroughPair :
    (edge.pair .DE).toNat < edge.cfg.memSize ∧ past.cfg.memSize ≤ (past.pair .DE).toNat ∧
      ∃ t, exec .ldaFromMemDE edge = .next t ∧ t.a = 0x12 :=
  ⟨by decide, by decide, _, rfl, by decide⟩

theorem witness_LdaLoadsAccumulatorFromAbsoluteAddress :
    (0x1FFF#16).toNat < edge.cfg.memSize ∧ edge.cfg.memSize ≤ (0x2000#16).toNat ∧
      ∃ t, exec (.ldaFromAbs 0x1FFF) edge = .next t ∧ t.a = 0x12 :=
  ⟨by decide, by decide, _, rfl, by decide⟩

theorem witness_LdfaStoresAccumulatorThroughPair :
    (edge.pair .BC).toNat < edge.cfg.memSize ∧ past.cfg.memSize ≤ (past.pair .BC).toNat ∧
      ∃ t, exec .ldfaToMemBC edge = .next t ∧ byteAt t 0x1FFF = 0x3C :=
  ⟨by decide, by decide, _, rfl, by decide⟩

theorem witness_LdfaStoresAccumulatorToAbsoluteAddress :
    (0x1FFF#16).toNat < edge.cfg.memSize ∧ edge.cfg.memSize ≤ (0x2000#16).toNat ∧
      ∃ t, exec (.ldfaToAbs 0x1FFF) edge = .next t ∧ byteAt t 0x1FFF = 0x3C :=
  ⟨by decide, by decide, _, rfl, by decide⟩

/-- The three clauses of a push: both addresses valid at SP = 0x1FFF, the first invalid at 0x2000, the second at 0. -/
theorem witness_PushStoresPairBelowStackPointer :
    (edge.sp.toNat < edge.cfg.memSize ∧ (edge.sp - 1).toNat < edge.cfg.memSize) ∧
      (let s : State := { edge with sp := 0x2000 }; s.cfg.memSize ≤ s.sp.toNat) ∧
      (let s : State := { edge with sp := 0 }; s.sp.toNat < s.cfg.memSize ∧ s.cfg.memSize ≤ (s.sp - 1).toNat) := by
  decide

/-- The three clauses of a pop: both valid at SP = 0x1FFD, the first invalid at 0x1FFF, the second at 0x1FFE. -/
theorem witness_PopLoadsPairAboveStackPointer :
    (let s : State := { edge with sp := 0x1FFD }; (s.sp + 1).toNat < s.cfg.memSize ∧ (s.sp + 2).toNat < s.cfg.memSize) ∧
      edge.cfg.memSize ≤ (edge.sp + 1).toNat ∧
      (let s : State := { edge with sp := 0x1FFE }; (s.sp + 1).toNat < s.cfg.memSize ∧ s.cfg.memSize ≤ (s.sp + 2).toNat) := by
  decide

/-- The clauses of the pop are those above; the two of the policy are each met by a state. -/
theorem witness_PopAfLoadsAccumulatorAndFlags :
    (let s : State := { edge with sp := 0x1FFD }; (s.sp + 1).toNat < s.cfg.memSize ∧ (s.sp + 2).toNat < s.cfg.memSize ∧ s.cfg.fLow = .retain) ∧
      (clearing.sp + 1).toNat < clearing.cfg.memSize ∧ (clearing.sp + 2).toNat < clearing.cfg.memSize ∧
      clearing.cfg.fLow = .clear := by
  decide

/-- `t` is the state after the push, `u` the same with B destroyed since; the same of AF with `t'` and `u'`, where F is. -/
theorem witness_PushThenPopRestores :
    (∃ t u : State, edge.sp.toNat < edge.cfg.memSize ∧ (edge.sp - 1).toNat < edge.cfg.memSize ∧ u.cfg = edge.cfg ∧
      u.sp = t.sp ∧ byteAt u edge.sp.toNat = byteAt t edge.sp.toNat ∧
      byteAt u (edge.sp - 1).toNat = byteAt t (edge.sp - 1).toNat ∧ exec (.pushPair .BC) edge = .next t ∧ u.b ≠ t.b) ∧
    ∃ t' u' : State, u'.cfg = edge.cfg ∧ u'.sp = t'.sp ∧ byteAt u' edge.sp.toNat = byteAt t' edge.sp.toNat ∧
      byteAt u' (edge.sp - 1).toNat = byteAt t' (edge.sp - 1).toNat ∧ exec .pushAF edge = .next t' ∧ u'.f ≠ t'.f ∧
      edge.cfg.fLow = .retain := by
  let t : State := { edge with
    mem := [(0x1FFE, 0xFF), (0x1FFF, 0x1F)], sp := 0x1FFD
    out := { execDone := true, accesses := [.write 0x1FFF 0x1F, .write 0x1FFE 0xFF] } }
  let t' : State := { edge with
    mem := [(0x1FFE, 0x9F), (0x1FFF, 0x3C)], sp := 0x1FFD
    out := { execDone := true, accesses := [.write 0x1FFF 0x3C, .write 0x1FFE 0x9F] } }
  exact ⟨⟨t, { t with b := 0 }, by decide, by decide, rfl, rfl, rfl, rfl, rfl, by decide⟩,
    t', { t' with f := 0 }, rfl, rfl, rfl, rfl, rfl, by decide, rfl⟩

/-- ADD, and with it ADC, SUB, SBC, CP, AND, OR and XOR: the two clauses of the (HL) form. -/
theorem witness_AddAddsOperandToAccumulator :
    (edge.pair .HL).toNat < edge.cfg.memSize ∧ past.cfg.memSize ≤ (past.pair .HL).toNat ∧
      ∃ t, exec .addMemHL edge = .next t ∧ t.a = 0x4E :=
  ⟨by decide, by decide, _, rfl, by decide⟩

theorem witness_AdcAddsOperandAndCarryToAccumulator :
    (edge.pair .HL).toNat < edge.cfg.memSize ∧ past.cfg.memSize ≤ (past.pair .HL).toNat ∧
      ∃ t, exec .adcMemHL edge = .next t ∧ t.a = 0x4F :=
  ⟨by decide, by decide, _, rfl, by decide⟩

theorem witness_SubSubtractsOperandFromAccumulator :
    (edge.pair .HL).toNat < edge.cfg.memSize ∧ past.cfg.memSize ≤ (past.pair .HL).toNat ∧
      ∃ t, exec .subMemHL edge = .next t ∧ t.a = 0x2A :=
  ⟨by decide, by decide, _, rfl, by decide⟩

theorem witness_SbcSubtractsOperandAndCarryFromAccumulator :
    (edge.pair .HL).toNat < edge.cfg.memSize ∧ past.cfg.memSize ≤ (past.pair .HL).toNat ∧
      ∃ t, exec .sbcMemHL edge = .next t ∧ t.a = 0x29 :=
  ⟨by decide, by decide, _, rfl, by decide⟩

theorem witness_CpSetsSubFlagsAndKeepsAccumulator :
    (edge.pair .HL).toNat < edge.cfg.memSize ∧ past.cfg.memSize ≤ (past.pair .HL).toNat ∧
      ∃ t, exec .cpMemHL edge = .next t ∧ t.a = 0x3C :=
  ⟨by decide, by decide, _, rfl, by decide⟩

theorem witness_AndMasksAccumulator :
    (edge.pair .HL).toNat < edge.cfg.memSize ∧ past.cfg.memSize ≤ (past.pair .HL).toNat ∧
      ∃ t, exec .andMemHL edge = .next t ∧ t.a = 0x10 :=
  ⟨by decide, by decide, _, rfl, by decide⟩

theorem witness_OrSetsBitsOfAccumulator :
    (edge.pair .HL).toNat < edge.cfg.memSize ∧ past.cfg.memSize ≤ (past.pair .HL).toNat ∧
      ∃ t, exec .orMemHL edge = .next t ∧ t.a = 0x3E :=
  ⟨by decide, by decide, _, rfl, by decide⟩

theorem witness_XorTogglesBitsOfAccumulator :
    (edge.pair .HL).toNat < edge.cfg.memSize ∧ past.cfg.memSize ≤ (past.pair .HL).toNat ∧
      ∃ t, exec .xorMemHL edge = .next t ∧ t.a = 0x2E :=
  ⟨by decide, by decide, _, rfl, by decide⟩

/-- The third law's case on the primitive, and instructions that reach the last clauses: ADC with Z set and C clear, SBC
with both set, CP. -/
theorem witness_ArithmeticLaws :
    (flagZ (sub8 0 255 true).2 = true ∧ flagC (sub8 0 255 true).2 = true) ∧
      (∃ t, exec (.adcImm 0) full = .next t ∧ t.out.execDone = true ∧ (Instr.adcImm 0).tagged.family = .adc ∧
        flagZ t.f = true ∧ flagC t.f = false) ∧
      (∃ t, exec (.sbcImm 255) { full with f := 0x10 } = .next t ∧ t.out.execDone = true ∧
        (Instr.sbcImm 255).tagged.family = .sbc ∧ flagZ t.f = true ∧ flagC t.f = true) ∧
      ∃ t, exec .cpMemHL edge = .next t ∧ t.out.execDone = true ∧ Instr.cpMemHL.tagged.family = .cp :=
  ⟨by decide, ⟨_, rfl, rfl, rfl, by decide, by decide⟩, ⟨_, rfl, rfl, rfl, by decide, by decide⟩, _, rfl, rfl, rfl⟩

/-- A pair as the source, SP as the source, and the law about `v = 0`. -/
theorem witness_Add16Laws :
    (∃ t, exec (.add16Pair .BC) edge = .next t ∧ flagC t.f = false ∧ edge.pair .BC = 0x1FFF) ∧
      (∃ t, exec .add16SP { edge with h := 0xFF } = .next t ∧ flagC t.f = true) ∧
      ∃ t, exec (.add16Pair .DE) { edge with d := 0, e := 0 } = .next t ∧ ({ edge with d := 0, e := 0 } : State).pair .DE = 0 :=
  ⟨⟨_, rfl, by decide, by decide⟩, ⟨_, rfl, by decide⟩, _, rfl, by decide⟩

theorem witness_ViewsReadBackWhatWasWritten : edge.cfg.fLow = .retain ∧ clearing.cfg.fLow = .clear := by decide

theorem witness_MemoryAccessesReadAndReplaceOneByte :
    edge.cfg.memSize ≤ (0x2000#16).toNat ∧ (0x1FFF#16).toNat < edge.cfg.memSize := by decide

/-- Two lists that are built differently, canonical and alike. -/
theorem witness_CanonicalMemoriesThatReadAlikeAreEqual :
    ∃ m m' : Memory, m = Memory.write (Memory.write [] 7 1) 3 2 ∧ m' = Memory.write (Memory.write [] 3 2) 7 1 ∧
      Memory.wf m = true ∧ Memory.wf m' = true ∧ ∀ a, Memory.read m a = Memory.read m' a :=
  ⟨_, _, rfl, rfl, by decide, by decide, fun _ => rfl⟩

/-- An illegal word and a legal one that faults. -/
theorem witness_IllegalWordRaisesInvariantViolation :
    ∃ s u : State, s.fault.valid = false ∧ s.inputs = presentWord 0x31000000 :: [] ∧
      (∀ row ∈ opcodeTable, row.selects 0x31000000 = false) ∧
      u.fault.valid = false ∧ u.inputs = presentWord 0x14100000 :: [] ∧ ∃ row ∈ opcodeTable, row.selects 0x14100000 = true := by
  refine ⟨{ edge with inputs := [presentWord 0x31000000] }, { small with inputs := [presentWord 0x14100000] }, rfl, rfl,
    fun row h => ?_, rfl, rfl, ?_⟩
  · have none_selects : opcodeTable.all (fun r => !r.selects 0x31000000) = true := by decide +kernel
    simpa using List.all_eq_true.1 none_selects row h
  · have some_selects : opcodeTable.any (fun r => r.selects 0x14100000) = true := by decide +kernel
    simpa using List.any_eq_true.1 some_selects

/-- A word whose form is in range, the PUSH of program P5, whose second address is not, and an illegal word. -/
theorem witness_FaultsFollowTheirPriorityAndCommitNothing :
    why 0x31000000 = some .operandKind ∧
    decode 0x14100000 = .ok .pushBC ∧
      (accessTable Instr.pushBC.tagged edge).find? (fun x => decide (edge.cfg.memSize ≤ x.2.toNat)) = none ∧
      (accessTable Instr.pushBC.tagged small).find? (fun x => decide (small.cfg.memSize ≤ x.2.toNat)) =
        some (true, 0xFFFF) := by
  decide

theorem witness_OnlyPresentedWordsRaiseFaults :
    ∃ t, small.fault.valid = false ∧ step { small with inputs := [presentWord 0x14100000] } = .next t ∧
      t.fault.valid = true :=
  ⟨_, rfl, rfl, rfl⟩

/-- A FAULTED block with nothing presented, with a word presented, under reset, and with a store of the host. -/
theorem witness_OnlyResetLeavesFaulted :
    ∃ s : State, s.fault.valid = true ∧ s.inputs = [] ∧
      (∃ p rest, ({ s with inputs := [presentWord 0x1C0C0005] } : State).inputs = .ports p :: rest ∧ p.rst = false) ∧
      (∃ t, step { s with inputs := [.ports { rst := true, exec := none, hostWrite := none }] } = .next t) ∧
      ∃ t, step { s with inputs := [.memory 0x1FFF 1] } = .next t :=
  ⟨{ edge with fault := { valid := true, code := 2, addr := 0, word := 0 } }, rfl, rfl, ⟨_, _, rfl, rfl⟩, ⟨_, rfl⟩, _, rfl⟩

theorem witness_ResetClearsBlockAndKeepsMemory :
    ∃ (s : State) (p : PortInput), s.inputs = .ports p :: [] ∧ p.rst = true ∧ s.a ≠ 0 ∧ s.mem ≠ [] :=
  ⟨{ edge with inputs := [.ports { rst := true, exec := none, hostWrite := none }] }, _, rfl, rfl, by decide, by decide⟩

theorem witness_ResetInMidPushLeavesHalfThePush :
    ∃ s u : State, s.fault.valid = false ∧ s.sp.toNat < s.cfg.memSize ∧ (s.sp - 1).toNat < s.cfg.memSize ∧
      s.inputs = .abandoned (encode (.pushPair .DE)) 1 :: [] ∧
      u.fault.valid = false ∧ u.sp.toNat < u.cfg.memSize ∧ (u.sp - 1).toNat < u.cfg.memSize ∧
      u.inputs = .abandoned (encode .pushAF) 1 :: [] :=
  ⟨{ edge with inputs := [.abandoned 0x14110000 1] }, { edge with inputs := [.abandoned 0x14140000 1] }, rfl, by decide,
    by decide, rfl, rfl, by decide, by decide, rfl⟩

/-- Every selector, 14 and 15 included, is taken by an IDLE block. -/
theorem witness_HostWritesFollowTheSelectorTable :
    ∀ sel : BitVec 4, ∃ s : State, s.fault.valid = false ∧
      s.inputs = .ports { rst := false, exec := none, hostWrite := some { sel := sel, data := 0xBEEF } } :: [] :=
  fun sel =>
    ⟨{ edge with inputs := [.ports { rst := false, exec := none, hostWrite := some { sel := sel, data := 0xBEEF } }] }, rfl, rfl⟩

/-- The three clauses: a word beside a host write, an instant with neither, no action listed. -/
theorem witness_WordWinsOverHostWriteAndIdleHolds :
    ∃ s u v : State, s.fault.valid = false ∧ u.fault.valid = false ∧ v.fault.valid = false ∧
      s.inputs =
        .ports { rst := false, exec := some 0x1C0C0005, hostWrite := some { sel := 0, data := 0xFF } } :: [] ∧
      u.inputs = .ports { rst := false, exec := none, hostWrite := none } :: [] ∧ v.inputs = [] :=
  ⟨{ edge with inputs := [.ports { rst := false, exec := some 0x1C0C0005, hostWrite := some { sel := 0, data := 0xFF } }] },
    { edge with inputs := [.ports { rst := false, exec := none, hostWrite := none }] }, edge, rfl, rfl, rfl, rfl, rfl, rfl⟩

theorem witness_HostStoreReplacesOneByte :
    ∃ s u : State, (s.inputs = .memory 0x1FFF 0x55 :: [] ∧ (0x1FFF#16).toNat < s.cfg.memSize) ∧
      u.inputs = .memory 0x2000 0x55 :: [] ∧ u.cfg.memSize ≤ (0x2000#16).toNat :=
  ⟨{ edge with inputs := [.memory 0x1FFF 0x55] }, { edge with inputs := [.memory 0x2000 0x55] }, ⟨rfl, by decide⟩, rfl,
    by decide⟩

/-- Both clauses: a word that is first on the host's list, and a number given to `withFetchWord`. -/
theorem witness_StepRunsTheDecodedInstruction :
    (∃ (s : State) (p : PortInput), s.fault.valid = false ∧ s.inputs = .ports p :: [] ∧ p.rst = false ∧
      p.exec = some 0x0C0BFFFF ∧ decode 0x0C0BFFFF = .ok (.ldaFromAbs 0xFFFF)) ∧
      edge.fault.valid = false ∧ 0x40130000 < 2 ^ 32 ∧ decode (BitVec.ofNat 32 0x40130000) = .ok .add16SP :=
  ⟨⟨{ edge with inputs := [presentWord 0x0C0BFFFF] }, _, rfl, rfl, rfl, rfl, by decide⟩, rfl, by decide, by decide⟩

theorem witness_InstructionsNeitherReadNorWritePc : ∃ t, exec .popAF { edge with sp := 0x1FFD } = .next t ∧ t.a = 0x12 :=
  ⟨_, rfl, by decide⟩

theorem witness_OnlyStackAndAdd16SpUseStackPointer :
    (∃ t, exec .add16SP edge = .next t ∧ Instr.add16SP.tagged.family ≠ .push ∧ Instr.add16SP.tagged.family ≠ .pop) ∧
      ∃ t, exec .add16HL edge = .next t ∧ Instr.add16HL.tagged.family ≠ .push ∧ Instr.add16HL.tagged.family ≠ .pop ∧
        Instr.add16HL ≠ .add16SP :=
  ⟨⟨_, rfl, by decide, by decide⟩, _, rfl, by decide, by decide, by decide⟩

theorem witness_OnlyStoringFormsWriteMemory :
    (∃ t, exec .ldrrMemHLFromL edge = .next t ∧ byteAt t 0x1FFF ≠ byteAt edge 0x1FFF) ∧
      (∃ t, exec (.ldfaToAbs 0) edge = .next t ∧ byteAt t 0 ≠ byteAt edge 0) ∧
      ∃ t, exec .pushBC edge = .next t ∧ byteAt t 0x1FFE ≠ byteAt edge 0x1FFE :=
  ⟨⟨_, rfl, by decide⟩, ⟨_, rfl, by decide⟩, _, rfl, by decide⟩

theorem witness_OnlyFlagWritersWriteF :
    (∃ t, exec .incPairHL edge = .next t ∧ t.f ≠ edge.f ∧ computesFlags Instr.incPairHL.tagged.family = true ∧
      t.out.execDone = true) ∧
      ∃ t, exec .popAF { edge with sp := 0x1FFD } = .next t ∧ t.f ≠ edge.f :=
  ⟨⟨_, rfl, by decide, rfl, rfl⟩, _, rfl, by decide⟩

/-- Clause by clause: INC and POP(AF), which write F and do not read it; LDN, which does neither; a fault; ADC with another F
of the same carry; ADD16 with another F of the same Z; PUSH(AF). -/
theorem witness_OnlyFlagReadersDependOnF :
    (∃ t, exec .incL edge = .next t ∧ readsF Instr.incL.tagged = false ∧ computesFlags Instr.incL.tagged.family = true ∧
      t.out.execDone = true) ∧
      (∃ t, exec .popAF { edge with sp := 0x1FFD } = .next t ∧ readsF Instr.popAF.tagged = false ∧ t.out.execDone = true) ∧
      (∃ t, exec (.ldnA 1) edge = .next t ∧ readsF (Instr.ldnA 1).tagged = false ∧
        computesFlags (Instr.ldnA 1).tagged.family = false ∧ Instr.ldnA 1 ≠ .popAF) ∧
      (∃ t, exec .adcMemHL past = .next t ∧ t.out.execDone = false) ∧
      (∃ t, exec .adcB edge = .next t ∧ Instr.adcB.tagged.family = .adc ∧ flagC 0x10 = flagC edge.f ∧
        t.out.execDone = true) ∧
      (∃ t, exec .add16SP edge = .next t ∧ Instr.add16SP.tagged.family = .add16 ∧ flagZ 0x80 = flagZ edge.f) ∧
      ∃ t, exec .pushAF edge = .next t ∧ t.out.execDone = true :=
  ⟨⟨_, rfl, rfl, rfl, rfl⟩, ⟨_, rfl, rfl, rfl⟩, ⟨_, rfl, rfl, rfl, by decide⟩, ⟨_, rfl, rfl⟩,
    ⟨_, rfl, rfl, by decide, rfl⟩, ⟨_, rfl, rfl, by decide⟩, _, rfl, rfl⟩

/-- R31 on one INC: another F, its C bit included, gives the very same state. -/
theorem test_inc_does_not_keep_carry :
    next (exec .incE { edge with f := 0x1F }) = next (exec .incE { edge with f := 0xE0 }) := by decide

/-- A step that completes, with two accesses, and a step that faults. -/
theorem witness_StepsMakeTheListedAccesses :
    (∃ t, exec .ldrrMemHLFromMemHL edge = .next t ∧ t.out.execDone = true ∧ t.out.accesses.length = 2) ∧
      ∃ t, exec .ldrrMemHLFromMemHL past = .next t ∧ t.out.execDone = false :=
  ⟨⟨_, rfl, rfl, rfl⟩, _, rfl, rfl⟩

/-- A state with a listed memory and a set latch, from which the host's store is a step. -/
theorem witness_StepKeepsInvariant :
    ∃ s t : State, s.Inv ∧ step s = .next t ∧ s.fault.valid = true ∧ s.mem ≠ [] :=
  ⟨{ edge with
      fault := { valid := true, code := 2, addr := 0, word := 0 }, inputs := [.memory 0 1] },
    _, ⟨by decide, by decide, by decide, .inr ⟨rfl, rfl, .familyCode, by decide⟩⟩, rfl, rfl, by decide⟩

/-- A program that completes and one, P6 of spec/95_test_vectors.md, that faults in its second word. -/
theorem witness_ProgramRunIsCompositionOfSteps :
    edge.safe ∧ edge.inputs = [] ∧ (∃ t, runProgram [0x1C0C0001, 0x1C0C0001] edge = .completed t) ∧
      ∃ t, runProgram [0x1C0C0001, 0x31000000, 0x1C0C0001] edge = .faulted t :=
  ⟨rfl, rfl, ⟨_, rfl⟩, _, rfl⟩

/-! ## The shapes -/

/-- A witness of `exec_shape`'s use: the shape of POP(AF). -/
theorem test_shape_of_pop_af : shapeOf Instr.popAF.tagged = some .popAf := by decide

end Sys2Proof.Tests
end

section
/-! The register views (spec/10_state.md R23 to R26): a pair is its two bytes, and a write through a view is read back. -/

namespace Sys2Proof.Machine

open Sys2Proof.Claims

/-! ## The two bytes of a word -/

theorem toNat_joinBytes (hi lo : U8) : (joinBytes hi lo).toNat = hi.toNat * 256 + lo.toNat := by
  rw [joinBytes, BitVec.toNat_append, ← Nat.shiftLeft_add_eq_or_of_lt lo.isLt, Nat.shiftLeft_eq]

theorem toNat_hiByte (v : U16) : (hiByte v).toNat = v.toNat / 256 := by
  rw [hiByte, BitVec.extractLsb'_toNat, Nat.shiftRight_eq_div_pow]
  omega

theorem toNat_loByte (v : U16) : (loByte v).toNat = v.toNat % 256 := by
  rw [loByte, BitVec.extractLsb'_toNat, Nat.shiftRight_zero]

@[simp] theorem hiByte_joinBytes (hi lo : U8) : hiByte (joinBytes hi lo) = hi :=
  BitVec.extractLsb'_append_eq_left

@[simp] theorem loByte_joinBytes (hi lo : U8) : loByte (joinBytes hi lo) = lo := by
  apply BitVec.eq_of_toNat_eq
  rw [toNat_loByte, toNat_joinBytes]
  omega

@[simp] theorem joinBytes_hiByte_loByte (v : U16) : joinBytes (hiByte v) (loByte v) = v := by
  apply BitVec.eq_of_toNat_eq
  rw [toNat_joinBytes, toNat_hiByte, toNat_loByte]
  omega

/-- A mask on a word is a mask on each of its bytes. -/
theorem joinBytes_and (hi lo hi' lo' : U8) :
    joinBytes hi lo &&& joinBytes hi' lo' = joinBytes (hi &&& hi') (lo &&& lo') :=
  BitVec.and_append

/-- The mask of bits 15 to 4 leaves the high byte and clears the low nibble. -/
theorem and_0xFFF0 (v : U16) : v &&& 0xFFF0#16 = joinBytes (hiByte v) (loByte v &&& 0xF0#8) := by
  calc v &&& 0xFFF0#16
      = joinBytes (hiByte v) (loByte v) &&& joinBytes 0xFF#8 0xF0#8 := by rw [joinBytes_hiByte_loByte]; rfl
    _ = joinBytes (hiByte v &&& 0xFF#8) (loByte v &&& 0xF0#8) := joinBytes_and ..
    _ = joinBytes (hiByte v) (loByte v &&& 0xF0#8) := by
      rw [show (0xFF#8 : U8) = BitVec.allOnes 8 from rfl, BitVec.and_allOnes]

/-! ## Writes through a view -/

@[simp] theorem State.pair_setPair_same (s : State) (p : Pair) (v : U16) : (s.setPair p v).pair p = v := by
  simp [State.pair]

/-- A write through AF is read back with the low byte that `FLow` leaves (R25). -/
theorem State.af_setAf (s : State) (v : U16) : (s.setAf v).af = joinBytes (hiByte v) (fLow s.cfg.fLow (loByte v)) := rfl

theorem State.af_setAf_retain {s : State} (v : U16) (h : s.cfg.fLow = .retain) : (s.setAf v).af = v := by
  rw [State.af_setAf, h, fLow, joinBytes_hiByte_loByte]

theorem State.af_setAf_clear {s : State} (v : U16) (h : s.cfg.fLow = .clear) : (s.setAf v).af = v &&& 0xFFF0#16 := by
  rw [State.af_setAf, h, fLow, and_0xFFF0]

/-- A pair write touches its two registers and no other part of the state. -/
theorem frame_setPair (s : State) (p : Pair) (v : U16) : Frame s (s.setPair p v) [pairHi p, pairLo p] [] := by
  refine ⟨fun r hr => ?_, by simp [byteAt], by simp, by simp, by simp, by simp⟩
  obtain ⟨hhi, hlo⟩ : r ≠ pairHi p ∧ r ≠ pairLo p := by simpa using hr
  exact State.reg_setPair_other s v hhi hlo

end Sys2Proof.Machine

namespace Sys2Proof.Proofs

open Sys2Proof.Machine Sys2Proof.Claims

/-- Settles O36: the bytes of a word are its quotient and remainder by 256, and `setPair` writes those two registers. -/
theorem pairViewsAreTheirRegisters : Obligations.PairViewsAreTheirRegisters := by
  intro s p v
  refine ⟨toNat_joinBytes .., ?_, ?_, State.setPair_f .., State.setPair_sp .., State.setPair_out .., frame_setPair s p v⟩
  · rw [State.reg_setPair_hi, toNat_hiByte]
  · rw [State.reg_setPair_lo, toNat_loByte]

/-- Settles O37: a pair is its two bytes joined; AF is, but for the low nibble that `FLow` clears under `clear`. -/
theorem viewsReadBackWhatWasWritten : Obligations.ViewsReadBackWhatWasWritten := by
  intro s v
  refine ⟨fun p => State.pair_setPair_same s p v, ?_, State.af_setAf_retain v, State.af_setAf_clear v⟩
  cases h : s.cfg.fLow with
  | retain => rw [State.af_setAf_retain v h]
  | clear => rw [State.af_setAf_clear v h, BitVec.and_assoc, BitVec.and_self]

/-- Settles O58: nothing is listed, the parameters are the full machine's, and the latch is clear. -/
theorem resetMeetsInvariant : Obligations.ResetMeetsInvariant where
  memCanonical := Memory.wf_reset
  memInBuffer := rfl
  params := rfl
  latch := rfl

end Sys2Proof.Proofs
end

section
/-! What a step of an instruction can do, said once: its shape lists the addresses it uses in access order (spec/60_exceptions.md
R261); the first of them out of range is the fault it takes, and with none out of range it completes in one named state. -/

namespace Sys2Proof.Machine

open Sys2Proof.Claims

/-! ## The shape's outcomes -/

/-- The addresses of a shape, in access order (spec/20_memory.md R82). -/
def Shape.addrs (s : State) : Shape → List U16
  | .move d x => (x.addr s).toList ++ (d.addr s).toList
  | .alu _ x => (x.addr s).toList
  | .pushPair _ | .pushAf => [s.sp, s.sp - 1]
  | .popPair _ | .popAf => [s.sp + 1, s.sp + 2]
  | .loadPair _ _ | .incReg _ | .incHL | .add16 _ => []

/-- The first address out of range (R261, R266). -/
def Shape.badAddr (s : State) (k : Shape) : Option U16 :=
  (k.addrs s).find? fun a => decide (s.cfg.memSize ≤ a.toNat)

/-- The state a completed push of `v` leaves (spec/41_stack.md R171). -/
def State.pushed (s : State) (v : U16) : State :=
  { s with
    mem := Memory.write (Memory.write s.mem s.sp.toNat (hiByte v)) (s.sp - 1).toNat (loByte v)
    sp := s.sp - 2
    out := { execDone := true, accesses := [.write s.sp (hiByte v), .write (s.sp - 1) (loByte v)] } }

/-- The word a pop takes (R173). -/
def State.stackTop (s : State) : U16 :=
  joinBytes (Memory.read s.mem (s.sp + 2).toNat) (Memory.read s.mem (s.sp + 1).toNat)

/-- The state in which a pop has made its two reads. -/
def State.poppedReads (s : State) : State :=
  { s with
    out :=
      { execDone := false
        accesses :=
          [.read (s.sp + 1) (Memory.read s.mem (s.sp + 1).toNat), .read (s.sp + 2) (Memory.read s.mem (s.sp + 2).toNat)] } }

/-- The state a completed pop leaves, its word written back by `put` (R173, R174). -/
def State.popped (s : State) (put : State → U16 → State) : State :=
  { put s.poppedReads s.stackTop with sp := s.sp + 2 }.complete

/-- The state a shape completes in. -/
def Shape.after (s : State) : Shape → State
  | .move d x => (d.put (x.value s) (s.quiet.recordAll (x.reads s))).complete
  | .loadPair p n => (s.quiet.loadPair p n).complete
  | .alu op x => (op.effect (s.quiet.recordAll (x.reads s)) (x.value s)).complete
  | .pushPair p => s.pushed (s.pair p)
  | .pushAf => s.pushed s.af
  | .popPair p => s.popped fun t v => t.setPair p v
  | .popAf => s.popped State.setAf
  | .incReg r => (s.quiet.incReg r).complete
  | .incHL => s.quiet.incHL.complete
  | .add16 x => (s.quiet.add16 x).complete

theorem Shape.badAddr_eq_none {s : State} {k : Shape} :
    k.badAddr s = none ↔ ∀ a ∈ k.addrs s, a.toNat < s.cfg.memSize := by
  simp [Shape.badAddr]

/-- The first address out of range of a shape with up to two: its first, or its second with the first in range. -/
theorem Shape.badAddr_eq_some_of_two {s : State} {k : Shape} {first second : Option U16} {a : U16}
    (hk : k.addrs s = first.toList ++ second.toList) (h : k.badAddr s = some a) :
    s.cfg.memSize ≤ a.toNat ∧
      (first = some a ∨ (∀ b, first = some b → b.toNat < s.cfg.memSize) ∧ second = some a) := by
  rw [Shape.badAddr, hk] at h
  refine ⟨by simpa using List.find?_some h, ?_⟩
  rw [List.find?_append, Option.or_eq_some_iff] at h
  obtain h | ⟨hfirst, h⟩ := h
  · exact .inl (by simpa using List.mem_of_find?_eq_some h)
  · refine .inr ⟨fun b hb => ?_, by simpa using List.mem_of_find?_eq_some h⟩
    simpa using List.find?_eq_none.1 hfirst b (by simp [hb])

/-! ## The shape's run -/

/-- With no address out of range a shape completes. -/
theorem Shape.run_of_badAddr_none {w : Di32} {s : State} {k : Shape} (h : k.badAddr s = none) :
    k.run w s = .next (k.after s) := by
  rw [Shape.badAddr_eq_none] at h
  cases k with
  | move d x =>
    exact move_valid (fun a ha => h a (by simp [Shape.addrs, ha])) (fun a ha => h a (by simp [Shape.addrs, ha]))
  | alu op x => exact withSource_valid fun a ha => h a (by simp [Shape.addrs, ha])
  | pushPair _ | pushAf => exact pushWord_valid (h _ (by simp [Shape.addrs])) (h _ (by simp [Shape.addrs]))
  | popPair p =>
    exact popWord_valid (put := fun t v => t.setPair p v) (h _ (by simp [Shape.addrs])) (h _ (by simp [Shape.addrs]))
  | popAf => exact popWord_valid (h _ (by simp [Shape.addrs])) (h _ (by simp [Shape.addrs]))
  | loadPair _ _ | incReg _ | incHL | add16 _ => rfl

/-- A push with an address out of range takes MemOutOfRange at the first such (spec/60_exceptions.md R266). -/
theorem pushWord_of_badAddr {w : Di32} {s : State} {k : Shape} {a : U16} (v : U16) (hk : k.addrs s = [s.sp, s.sp - 1])
    (h : k.badAddr s = some a) : pushWord w v s = .next (s.takeFault .memOutOfRange a w) := by
  obtain ⟨hbad, hfirst | ⟨hok, hsecond⟩⟩ :=
    Shape.badAddr_eq_some_of_two (first := some s.sp) (second := some (s.sp - 1)) hk h
  · cases hfirst
    exact pushWord_first_invalid hbad
  · cases hsecond
    exact pushWord_second_invalid (hok _ rfl) hbad

/-- A pop with an address out of range takes MemOutOfRange at the first such (R266). -/
theorem popWord_of_badAddr {w : Di32} {s : State} {k : Shape} {a : U16} (put : State → U16 → State)
    (hk : k.addrs s = [s.sp + 1, s.sp + 2]) (h : k.badAddr s = some a) :
    popWord w put s = .next (s.takeFault .memOutOfRange a w) := by
  obtain ⟨hbad, hfirst | ⟨hok, hsecond⟩⟩ :=
    Shape.badAddr_eq_some_of_two (first := some (s.sp + 1)) (second := some (s.sp + 2)) hk h
  · cases hfirst
    exact popWord_first_invalid hbad
  · cases hsecond
    exact popWord_second_invalid (hok _ rfl) hbad

/-- With an address out of range a shape takes MemOutOfRange at the first such, and changes nothing else. -/
theorem Shape.run_of_badAddr_some {w : Di32} {s : State} {k : Shape} {a : U16} (h : k.badAddr s = some a) :
    k.run w s = .next (s.takeFault .memOutOfRange a w) := by
  cases k with
  | move d x =>
    obtain ⟨hbad, hx | ⟨hx, hd⟩⟩ := Shape.badAddr_eq_some_of_two rfl h
    · exact move_source_invalid hx hbad
    · exact move_destination_invalid hx hd hbad
  | alu op x =>
    obtain ⟨hbad, hx | ⟨_, hx⟩⟩ := Shape.badAddr_eq_some_of_two (second := none) (List.append_nil _).symm h
    · exact withSource_invalid hx hbad
    · cases hx
  | pushPair _ | pushAf => exact pushWord_of_badAddr _ rfl h
  | popPair p => exact popWord_of_badAddr (fun t v => t.setPair p v) rfl h
  | popAf => exact popWord_of_badAddr _ rfl h
  | _ => cases h

theorem Shape.after_execDone (s : State) (k : Shape) : (k.after s).out.execDone = true := by
  cases k <;> rfl

/-! ## The instruction's outcomes -/

section
variable {i : Instr} {k : Shape} {s t : State} {a : U16} (hk : shapeOf i.tagged = some k)
include hk

/-- The shape depends on the instruction alone, not on the state it meets. -/
theorem exec_eq_run (s : State) : exec i s = k.run (encode i) s := by
  obtain ⟨k', hk', hrun⟩ := exec_shape i s
  obtain rfl : k = k' := Option.some.inj (hk.symm.trans hk')
  exact hrun

theorem exec_completes (h : k.badAddr s = none) : exec i s = .next (k.after s) :=
  (exec_eq_run hk s).trans (Shape.run_of_badAddr_none h)

theorem exec_faults (h : k.badAddr s = some a) : exec i s = .next (s.takeFault .memOutOfRange a (encode i)) :=
  (exec_eq_run hk s).trans (Shape.run_of_badAddr_some h)

/-- A step completes, every address in range, or takes MemOutOfRange at the first address out of range. -/
theorem exec_cases (h : exec i s = .next t) :
    (k.badAddr s = none ∧ t = k.after s) ∨
      ∃ a, k.badAddr s = some a ∧ t = s.takeFault .memOutOfRange a (encode i) := by
  cases hbad : k.badAddr s with
  | none => exact .inl ⟨rfl, (Host.Outcome.next.inj ((exec_completes hk hbad).symm.trans h)).symm⟩
  | some a => exact .inr ⟨a, rfl, (Host.Outcome.next.inj ((exec_faults hk hbad).symm.trans h)).symm⟩

/-- A step that pulses `exec_done` had every address in range. -/
theorem exec_cases_of_execDone (h : exec i s = .next t) (hdone : t.out.execDone = true) :
    k.badAddr s = none ∧ t = k.after s := by
  obtain hok | ⟨a, _, rfl⟩ := exec_cases hk h
  · exact hok
  · cases hdone

/-- A step that does not pulse `exec_done` took MemOutOfRange. -/
theorem exec_cases_of_not_execDone (h : exec i s = .next t) (hdone : t.out.execDone = false) :
    ∃ a, k.badAddr s = some a ∧ t = s.takeFault .memOutOfRange a (encode i) := by
  obtain ⟨_, rfl⟩ | hfault := exec_cases hk h
  · cases (Shape.after_execDone s k).symm.trans hdone
  · exact hfault

end

/-- Every instruction has a shape. -/
theorem exists_shapeOf (i : Instr) : ∃ k, shapeOf i.tagged = some k := by
  obtain ⟨k, hk, _⟩ := exec_shape i State.reset
  exact ⟨k, hk⟩

/-! ## What the tags say about the shape -/

/-- The shapes that move SP. -/
def Shape.movesSp : Shape → Bool
  | .pushPair _ | .pushAf | .popPair _ | .popAf => true
  | .move _ _ | .loadPair _ _ | .alu _ _ | .incReg _ | .incHL | .add16 _ => false

/-- The shapes that store to memory. -/
def Shape.stores : Shape → Bool
  | .move (.ind _) _ | .move (.abs _) _ | .pushPair _ | .pushAf => true
  | .move (.reg _) _ | .loadPair _ _ | .alu _ _ | .popPair _ | .popAf | .incReg _ | .incHL | .add16 _ => false

/-- The shapes that compute flags. -/
def Shape.computesFlags : Shape → Bool
  | .alu _ _ | .incReg _ | .incHL | .add16 _ => true
  | .move _ _ | .loadPair _ _ | .pushPair _ | .pushAf | .popPair _ | .popAf => false

/-- The shapes that use bit C of the old F. -/
def Shape.readsC : Shape → Bool
  | .alu .adc _ | .alu .sbc _ => true
  | _ => false

/-- The shapes that use bit Z of the old F. -/
def Shape.readsZ : Shape → Bool
  | .add16 _ => true
  | _ => false

/-- The shapes whose effect depends on the old F (spec/10_state.md R31). -/
def Shape.readsF (k : Shape) : Bool :=
  k.readsC || k.readsZ || k == .pushAf

/-- What the tags say of every instruction's shape, read of the shape at hand. -/
theorem eq_of_map_shapeOf {i : Instr} {k : Shape} {p : Shape → Bool} {b : Bool} (hk : shapeOf i.tagged = some k)
    (h : (shapeOf i.tagged).map p = some b) : p k = b := by
  rwa [hk, Option.map_some, Option.some.injEq] at h

theorem shapeOf_movesSp (i : Instr) :
    (shapeOf i.tagged).map Shape.movesSp = some (i.tagged.family == .push || i.tagged.family == .pop) := by
  cases i <;> rfl

theorem shapeOf_stores (i : Instr) : (shapeOf i.tagged).map Shape.stores = some (storesToMemory i.tagged) := by
  cases i <;> rfl

theorem shapeOf_computesFlags (i : Instr) :
    (shapeOf i.tagged).map Shape.computesFlags = some (Claims.computesFlags i.tagged.family) := by
  cases i <;> rfl

theorem shapeOf_readsC (i : Instr) :
    (shapeOf i.tagged).map Shape.readsC = some (i.tagged.family == .adc || i.tagged.family == .sbc) := by
  cases i <;> rfl

theorem shapeOf_readsZ (i : Instr) :
    (shapeOf i.tagged).map Shape.readsZ = some (i.tagged.family == .add16) := by
  cases i <;> rfl

theorem shapeOf_readsF (i : Instr) :
    (shapeOf i.tagged).map Shape.readsF = some (Claims.readsF i.tagged) := by
  cases i <;> rfl

theorem shapeOf_eq_pushAf (i : Instr) : shapeOf i.tagged = some .pushAf ↔ i = .pushAF := by
  cases i <;> simp [shapeOf, Instr.tagged, srcOf, dstOf]

theorem shapeOf_eq_popAf (i : Instr) : shapeOf i.tagged = some .popAf ↔ i = .popAF := by
  cases i <;> simp [shapeOf, Instr.tagged, srcOf, dstOf]

theorem shapeOf_eq_add16Sp (i : Instr) : shapeOf i.tagged = some (.add16 .sp) ↔ i = .add16SP := by
  cases i <;> simp [shapeOf, Instr.tagged, srcOf, dstOf]

end Sys2Proof.Machine
end

section
/-! What an instruction neither reads nor writes. A field is out of an instruction's reach when overwriting it before the step
is the same as overwriting it after: the overwrite is carried through. Used for PC (spec/10_state.md R28), SP (R27) and F (R31). -/

namespace Sys2Proof.Machine

open Sys2Proof.Claims

/-! ## Overwrites that operands and stores carry through -/

/-- The overwrite of a field that no operand, no register write, no store and no record of an access touches. -/
structure CarriedByLoads (φ : State → State) : Prop where
  reg : ∀ s r, (φ s).reg r = s.reg r
  cfg : ∀ s, (φ s).cfg = s.cfg
  mem : ∀ s, (φ s).mem = s.mem
  out : ∀ s, (φ s).out = s.out
  setReg : ∀ s r v, (φ s).setReg r v = φ (s.setReg r v)
  setMem : ∀ s m, { φ s with mem := m } = φ { s with mem := m }
  setOut : ∀ s o, { φ s with out := o } = φ { s with out := o }
  takeFault : ∀ s c a w, (φ s).takeFault c a w = φ (s.takeFault c a w)

/-- The overwrite of a field that the register effects of the flag-computing shapes do not touch either. -/
structure CarriedByAlu (φ : State → State) : Prop extends CarriedByLoads φ where
  effect : ∀ op s v, AluOp.effect op (φ s) v = φ (AluOp.effect op s v)
  incReg : ∀ s r, (φ s).incReg r = φ (s.incReg r)
  incHL : ∀ s, (φ s).incHL = φ s.incHL
  add16Pair : ∀ s p, (φ s).add16 (.pair p) = φ (s.add16 (.pair p))

theorem carriedByLoads_f (g : U8) : CarriedByLoads fun s => { s with f := g } where
  reg _ r := by cases r <;> rfl
  cfg _ := rfl
  mem _ := rfl
  out _ := rfl
  setReg _ r _ := by cases r <;> rfl
  setMem _ _ := rfl
  setOut _ _ := rfl
  takeFault _ _ _ _ := rfl

theorem carriedByAlu_pc (q : U16) : CarriedByAlu fun s => { s with pc := q } where
  reg _ r := by cases r <;> rfl
  cfg _ := rfl
  mem _ := rfl
  out _ := rfl
  setReg _ r _ := by cases r <;> rfl
  setMem _ _ := rfl
  setOut _ _ := rfl
  takeFault _ _ _ _ := rfl
  effect op _ _ := by cases op <;> rfl
  incReg _ r := by cases r <;> rfl
  incHL _ := rfl
  add16Pair _ p := by cases p <;> rfl

theorem carriedByAlu_sp (q : U16) : CarriedByAlu fun s => { s with sp := q } where
  reg _ r := by cases r <;> rfl
  cfg _ := rfl
  mem _ := rfl
  out _ := rfl
  setReg _ r _ := by cases r <;> rfl
  setMem _ _ := rfl
  setOut _ _ := rfl
  takeFault _ _ _ _ := rfl
  effect op _ _ := by cases op <;> rfl
  incReg _ r := by cases r <;> rfl
  incHL _ := rfl
  add16Pair _ p := by cases p <;> rfl

namespace CarriedByLoads

variable {φ : State → State} (hφ : CarriedByLoads φ)
include hφ

theorem pair (s : State) (p : Pair) : (φ s).pair p = s.pair p := by
  rw [State.pair, hφ.reg, hφ.reg, ← State.pair]

theorem setPair (s : State) (p : Pair) (v : U16) : (φ s).setPair p v = φ (s.setPair p v) := by
  rw [State.setPair, hφ.setReg, hφ.setReg, ← State.setPair]

theorem quiet (s : State) : (φ s).quiet = φ s.quiet :=
  hφ.setOut s _

theorem complete (s : State) : (φ s).complete = φ s.complete := by
  rw [State.complete, hφ.out]
  exact hφ.setOut s _

theorem record (s : State) (x : Access) : (φ s).record x = φ (s.record x) := by
  rw [State.record, hφ.out]
  exact hφ.setOut s _

theorem recordAll (s : State) (xs : List Access) : (φ s).recordAll xs = φ (s.recordAll xs) := by
  rw [State.recordAll, hφ.out]
  exact hφ.setOut s _

theorem srcAddr (s : State) (x : Src) : x.addr (φ s) = x.addr s := by
  cases x <;> simp [Src.addr, hφ.pair]

theorem srcValue (s : State) (x : Src) : x.value (φ s) = x.value s := by
  cases x <;> simp [Src.value, hφ.pair, hφ.reg, hφ.mem]

theorem srcReads (s : State) (x : Src) : x.reads (φ s) = x.reads s := by
  rw [Src.reads, hφ.srcAddr, hφ.srcValue, ← Src.reads]

theorem dstAddr (s : State) (d : Dst) : d.addr (φ s) = d.addr s := by
  cases d <;> simp [Dst.addr, hφ.pair]

theorem dstPut (s : State) (d : Dst) (v : U8) : d.put v (φ s) = φ (d.put v s) := by
  cases d with
  | reg r => exact hφ.setReg s r v
  | ind p => rw [Dst.put, hφ.mem, hφ.pair, hφ.setMem, hφ.record, ← Dst.put]
  | abs nn => rw [Dst.put, hφ.mem, hφ.setMem, hφ.record, ← Dst.put]

/-- The state in which a source operand has been read. -/
theorem readSource (s : State) (x : Src) :
    (φ s).quiet.recordAll (x.reads (φ s)) = φ (s.quiet.recordAll (x.reads s)) := by
  rw [hφ.srcReads, hφ.quiet, hφ.recordAll]

/-- Overwriting the field leaves the addresses of a shape, when the shape leaves SP alone or the field is not SP. -/
theorem addrs (s : State) (k : Shape) (hsp : k.movesSp = true → (φ s).sp = s.sp) : k.addrs (φ s) = k.addrs s := by
  cases k with
  | move d x => simp only [Shape.addrs, hφ.srcAddr, hφ.dstAddr]
  | alu op x => simp only [Shape.addrs, hφ.srcAddr]
  | pushPair _ | pushAf | popPair _ | popAf => simp only [Shape.addrs, hsp rfl]
  | loadPair _ _ | incReg _ | incHL | add16 _ => rfl

/-- Overwriting the field leaves where a shape faults, under the same condition. -/
theorem badAddr (s : State) (k : Shape) (hsp : k.movesSp = true → (φ s).sp = s.sp) : k.badAddr (φ s) = k.badAddr s := by
  rw [Shape.badAddr, hφ.addrs s k hsp, hφ.cfg, ← Shape.badAddr]

theorem after_move (s : State) (d : Dst) (x : Src) :
    (Shape.move d x).after (φ s) = φ ((Shape.move d x).after s) := by
  rw [Shape.after, hφ.srcValue, hφ.readSource, hφ.dstPut, hφ.complete, ← Shape.after]

theorem after_loadPair (s : State) (p : Pair) (n : U8) :
    (Shape.loadPair p n).after (φ s) = φ ((Shape.loadPair p n).after s) := by
  rw [Shape.after, State.loadPair, hφ.quiet, hφ.setPair, hφ.complete, ← State.loadPair, ← Shape.after]

end CarriedByLoads

/-- The shapes that use the old SP: those that move it, and ADD16(SP) (R27). -/
def Shape.readsSp : Shape → Bool
  | .add16 .sp => true
  | k => k.movesSp

/-- A shape that does not read SP carries through the overwrite of a field outside the registers, F and memory. -/
theorem CarriedByAlu.after {φ : State → State} (hφ : CarriedByAlu φ) (s : State) {k : Shape} (hk : k.readsSp = false) :
    k.after (φ s) = φ (k.after s) := by
  cases k with
  | move d x => exact hφ.after_move s d x
  | loadPair p n => exact hφ.after_loadPair s p n
  | alu op x => rw [Shape.after, hφ.srcValue, hφ.readSource, hφ.effect, hφ.complete, ← Shape.after]
  | pushPair _ | pushAf | popPair _ | popAf => cases hk
  | incReg r => rw [Shape.after, hφ.quiet, hφ.incReg, hφ.complete, ← Shape.after]
  | incHL => rw [Shape.after, hφ.quiet, hφ.incHL, hφ.complete, ← Shape.after]
  | add16 x =>
    cases x with
    | sp => cases hk
    | pair p => rw [Shape.after, hφ.quiet, hφ.add16Pair, hφ.complete, ← Shape.after]

/-- An instruction carries an overwrite through when its completed state does. -/
theorem CarriedByLoads.exec {φ : State → State} (hφ : CarriedByLoads φ) {i : Instr} {k : Shape} {s t : State}
    (hk : shapeOf i.tagged = some k) (hsp : k.movesSp = true → (φ s).sp = s.sp) (hafter : k.after (φ s) = φ (k.after s))
    (h : exec i s = .next t) : exec i (φ s) = .next (φ t) := by
  have hbad : k.badAddr (φ s) = k.badAddr s := hφ.badAddr s k hsp
  obtain ⟨hok, rfl⟩ | ⟨a, ha, rfl⟩ := exec_cases hk h
  · rw [exec_completes hk (hbad.trans hok), hafter]
  · rw [exec_faults hk (hbad.trans ha), hφ.takeFault]

/-! ## PC -/

/-- No shape reads or writes PC (R28). -/
theorem Shape.after_withPc (k : Shape) (s : State) (q : U16) : k.after { s with pc := q } = { k.after s with pc := q } := by
  cases hk : k.readsSp with
  | false => exact (carriedByAlu_pc q).after s hk
  | true =>
    cases k with
    | pushPair p => cases p <;> rfl
    | pushAf => rfl
    | popPair p => cases p <;> rfl
    | popAf => rfl
    | add16 x =>
      cases x with
      | sp => rfl
      | pair p => cases hk
    | _ => cases hk

theorem exec_withPc {i : Instr} {s t : State} (q : U16) (h : exec i s = .next t) :
    exec i { s with pc := q } = .next { t with pc := q } := by
  obtain ⟨k, hk⟩ := exists_shapeOf i
  exact (carriedByAlu_pc q).exec hk (fun _ => rfl) (k.after_withPc s q) h

/-! ## SP -/

theorem Shape.after_sp {k : Shape} (s : State) (hk : k.movesSp = false) : (k.after s).sp = s.sp := by
  cases hr : k.readsSp with
  | false =>
    have hkept : k.after s = { k.after s with sp := s.sp } := (carriedByAlu_sp s.sp).after s hr
    rw [hkept]
  | true =>
    cases k with
    | add16 x => simp [Shape.after, State.add16]
    | _ => cases hk.symm.trans hr

theorem movesSp_eq_false {i : Instr} {k : Shape} (hk : shapeOf i.tagged = some k) (hpush : i.tagged.family ≠ .push)
    (hpop : i.tagged.family ≠ .pop) : k.movesSp = false := by
  simp [eq_of_map_shapeOf hk (shapeOf_movesSp i), hpush, hpop]

/-- Only ADD16(SP) reads SP without moving it. -/
theorem readsSp_eq_false {i : Instr} {k : Shape} (hk : shapeOf i.tagged = some k) (hmoves : k.movesSp = false)
    (hi : i ≠ .add16SP) : k.readsSp = false := by
  unfold Shape.readsSp
  split
  · exact absurd ((shapeOf_eq_add16Sp i).1 hk) hi
  · exact hmoves

/-! ## Memory -/

theorem Shape.after_mem {k : Shape} (s : State) (hk : k.stores = false) : (k.after s).mem = s.mem := by
  cases k with
  | move d x =>
    cases d with
    | reg r => simp [Shape.after, Dst.put]
    | ind _ | abs _ => cases hk
  | loadPair p n => simp [Shape.after, State.loadPair]
  | alu op x => cases op <;> rfl
  | pushPair _ | pushAf => cases hk
  | popPair p => simp [Shape.after, State.popped, State.poppedReads]
  | popAf => rfl
  | incReg r => simp [Shape.after, State.incReg]
  | incHL => simp [Shape.after, State.incHL]
  | add16 x => simp [Shape.after, State.add16]

theorem exec_mem {i : Instr} {s t : State} (h : exec i s = .next t) (hi : storesToMemory i.tagged = false) :
    t.mem = s.mem := by
  obtain ⟨k, hk⟩ := exists_shapeOf i
  obtain ⟨_, rfl⟩ | ⟨a, _, rfl⟩ := exec_cases hk h
  · exact Shape.after_mem s ((eq_of_map_shapeOf hk (shapeOf_stores i)).trans hi)
  · rfl

end Sys2Proof.Machine

namespace Sys2Proof.Proofs

open Sys2Proof.Machine Sys2Proof.Claims

/-- Settles O51: every shape carries another PC through; carrying the PC it began with shows that it kept it. -/
theorem instructionsNeitherReadNorWritePc : Obligations.InstructionsNeitherReadNorWritePc := by
  intro i s t q h
  have hkept : t = { t with pc := s.pc } := Host.Outcome.next.inj (h.symm.trans (exec_withPc s.pc h))
  exact ⟨by rw [hkept], exec_withPc q h⟩

/-- Settles O52: outside PUSH and POP no shape writes SP, and of the others only ADD16(SP) does not carry another SP
through. -/
theorem onlyStackAndAdd16SpUseStackPointer : Obligations.OnlyStackAndAdd16SpUseStackPointer := by
  intro i s t q h hpush hpop
  obtain ⟨k, hk⟩ := exists_shapeOf i
  have hmoves : k.movesSp = false := movesSp_eq_false hk hpush hpop
  constructor
  · obtain ⟨_, rfl⟩ | ⟨a, _, rfl⟩ := exec_cases hk h
    · exact Shape.after_sp s hmoves
    · rfl
  · intro hi
    exact (carriedByAlu_sp q).exec hk (fun hmoves' => by cases hmoves.symm.trans hmoves')
      ((carriedByAlu_sp q).after s (readsSp_eq_false hk hmoves hi)) h

/-- Settles O53: a form that does not store leaves the memory list as it was. -/
theorem onlyStoringFormsWriteMemory : Obligations.OnlyStoringFormsWriteMemory := by
  rintro i s t h ⟨a, ha⟩
  by_contra hi
  exact ha (by rw [byteAt, exec_mem h (Bool.eq_false_iff.2 hi), ← byteAt])

end Sys2Proof.Proofs
end

section
/-! Who writes and who reads F (spec/10_state.md R30, R31). Each shape either computes F or leaves it; of the old F the
flag-computing shapes see bit C (ADC, SBC) or bit Z (ADD16) alone, and PUSH(AF) stores it. -/

namespace Sys2Proof.Machine

open Sys2Proof.Claims

/-! ## The low nibble of computed flags -/

/-- `flags(z, n, h, c)` ends in four zero bits (spec/00_scope.md R9). -/
theorem flags_mod_16 (z n h c : Bool) : (flags z n h c).toNat % 16 = 0 := by
  rw [flags, BitVec.toNat_append]
  simp [Nat.shiftLeft_eq]

theorem or_mod_16 {a b : U8} (ha : a.toNat % 2 ^ 4 = 0) (hb : b.toNat % 2 ^ 4 = 0) : (a ||| b).toNat % 2 ^ 4 = 0 := by
  rw [BitVec.toNat_or, Nat.or_mod_two_pow, ha, hb, Nat.or_self]

/-- The F of ADD16 ends in four zero bits (spec/45_add16.md R251). -/
theorem add16_flags_mod_16 (f : U8) (hl v : U16) : (add16 f hl v).2.toNat % 16 = 0 := by
  refine or_mod_16 (or_mod_16 ?_ ?_) ?_
  · rw [BitVec.toNat_and, Nat.and_mod_two_pow]
    simp
  · split <;> rfl
  · split <;> rfl

theorem effect_f_mod_16 (op : AluOp) (s : State) (v : U8) : (op.effect s v).f.toNat % 16 = 0 := by
  cases op <;> exact flags_mod_16 ..

/-- A completed shape that computes flags leaves F[3:0] zero. -/
theorem Shape.after_f_mod_16 {k : Shape} (s : State) (hk : k.computesFlags = true) : (k.after s).f.toNat % 16 = 0 := by
  cases k with
  | alu op x => exact effect_f_mod_16 ..
  | incReg r => exact flags_mod_16 ..
  | incHL => exact flags_mod_16 ..
  | add16 x => exact add16_flags_mod_16 ..
  | _ => cases hk

/-! ## What another F changes -/

theorem Shape.readsF_eq_false {k : Shape} : k.readsF = false ↔ k.readsC = false ∧ k.readsZ = false ∧ k ≠ .pushAf := by
  simp [Shape.readsF, and_assoc]

/-- No address depends on F. -/
theorem badAddr_withF (k : Shape) (s : State) (g : U8) : k.badAddr { s with f := g } = k.badAddr s :=
  (carriedByLoads_f g).badAddr s k fun _ => rfl

/-- A shape that neither computes flags, nor pops F, nor pushes it, carries another F through. -/
theorem Shape.after_withF_carried {k : Shape} (s : State) (g : U8) (hk : k.computesFlags = false) (hpop : k ≠ .popAf)
    (hpush : k ≠ .pushAf) : k.after { s with f := g } = { k.after s with f := g } := by
  cases k with
  | move d x => exact (carriedByLoads_f g).after_move s d x
  | loadPair p n => exact (carriedByLoads_f g).after_loadPair s p n
  | pushPair p => cases p <;> rfl
  | popPair p => cases p <;> rfl
  | pushAf => exact absurd rfl hpush
  | popAf => exact absurd rfl hpop
  | _ => cases hk

/-- Of the old F a family of the eight-bit ALU sees bit C alone, and only in ADC and SBC. -/
theorem effect_withF (op : AluOp) (s : State) (g v : U8) (hC : op = .adc ∨ op = .sbc → flagC g = flagC s.f) :
    op.effect { s with f := g } v = op.effect s v := by
  cases op with
  | adc => simp only [AluOp.effect, State.adcA, hC (.inl rfl)]
  | sbc => simp only [AluOp.effect, State.sbcA, hC (.inr rfl)]
  | add => rfl
  | sub => rfl
  | cp => rfl
  | and => rfl
  | or => rfl
  | xor => rfl

/-- The mask of bit 7 keeps F.Z alone. -/
theorem and_0x80_eq_of_flagZ {f g : U8} (h : flagZ g = flagZ f) : g &&& 0x80#8 = f &&& 0x80#8 := by
  apply BitVec.eq_of_getLsbD_eq
  intro j hj
  rw [BitVec.getLsbD_and, BitVec.getLsbD_and]
  obtain rfl | hj7 := eq_or_ne j 7
  · rw [show g.getLsbD 7 = f.getLsbD 7 from h]
  · have hmask : (0x80#8 : U8).getLsbD j = false := by interval_cases j <;> simp at hj7 ⊢
    rw [hmask, Bool.and_false, Bool.and_false]

/-- The sum and flags of ADD16 depend on bit Z of the old F alone. -/
theorem add16_eq_of_flagZ {f g : U8} (hl v : U16) (h : flagZ g = flagZ f) : add16 g hl v = add16 f hl v := by
  simp only [add16, and_0x80_eq_of_flagZ h]

theorem src16Val_withF (x : Src16) (s : State) (g : U8) : src16Val x { s with f := g } = src16Val x s := by
  cases x with
  | pair p => exact (carriedByLoads_f g).pair s p
  | sp => rfl

/-- Of the old F, ADD16 sees bit Z alone. -/
theorem State.add16_withF (x : Src16) (s : State) (g : U8) (hZ : flagZ g = flagZ s.f) :
    State.add16 x { s with f := g } = State.add16 x s := by
  have hsum := add16_eq_of_flagZ (s.pair .HL) (src16Val x s) hZ
  have hpair : ({ s with f := g } : State).pair .HL = s.pair .HL := rfl
  simp only [State.add16, src16Val_withF, hpair, hsum]
  rfl

/-- A shape that replaces F completes in the same state from any other F that agrees in the bits it reads. -/
theorem Shape.after_withF_same {k : Shape} (s : State) (g : U8) (hk : k.computesFlags = true ∨ k = .popAf)
    (hC : k.readsC = true → flagC g = flagC s.f) (hZ : k.readsZ = true → flagZ g = flagZ s.f) :
    k.after { s with f := g } = k.after s := by
  cases k with
  | alu op x =>
    have hφ := carriedByLoads_f g
    rw [Shape.after, hφ.srcValue, hφ.readSource, effect_withF, ← Shape.after]
    rintro (rfl | rfl) <;> exact hC rfl
  | incReg r => cases r <;> rfl
  | incHL => rfl
  | add16 x => exact congrArg State.complete (State.add16_withF x s.quiet g (hZ rfl))
  | popAf => rfl
  | _ => simp [Shape.computesFlags] at hk

/-- ADD16 makes no access. -/
theorem Shape.badAddr_of_readsZ {k : Shape} (s : State) (hk : k.readsZ = true) : k.badAddr s = none := by
  cases k with
  | add16 x => rfl
  | _ => cases hk

/-- A shape that neither computes flags nor pops F leaves it. -/
theorem Shape.after_f {k : Shape} (s : State) (hk : k.computesFlags = false) (hpop : k ≠ .popAf) :
    (k.after s).f = s.f := by
  obtain rfl | hpush := eq_or_ne k .pushAf
  · rfl
  · have hkept : k.after s = { k.after s with f := s.f } := Shape.after_withF_carried s s.f hk hpop hpush
    rw [hkept]

/-! ## Instructions started with another F -/

section
variable {i : Instr} {k : Shape} {s t : State} (g : U8) (hk : shapeOf i.tagged = some k)
include hk

/-- A completed step of an instruction that replaces F, started with another F that agrees in the bits it reads. -/
theorem exec_withF_same (hwrites : k.computesFlags = true ∨ k = .popAf) (hC : k.readsC = true → flagC g = flagC s.f)
    (hZ : k.readsZ = true → flagZ g = flagZ s.f) (h : exec i s = .next t) (hok : k.badAddr s = none) :
    exec i { s with f := g } = .next t := by
  rw [exec_completes hk ((badAddr_withF k s g).trans hok), Shape.after_withF_same s g hwrites hC hZ, ← h,
    exec_completes hk hok]

/-- A step of an instruction that neither reads nor writes F. -/
theorem exec_withF_carried (hwrites : k.computesFlags = false) (hpop : k ≠ .popAf) (hpush : k ≠ .pushAf)
    (h : exec i s = .next t) : exec i { s with f := g } = .next { t with f := g } :=
  (carriedByLoads_f g).exec hk (fun _ => rfl) (Shape.after_withF_carried s g hwrites hpop hpush) h

/-- A faulting step: the fault depends on no flag. -/
theorem exec_withF_of_not_execDone (h : exec i s = .next t) (hdone : t.out.execDone = false) :
    exec i { s with f := g } = .next { t with f := g } := by
  obtain ⟨a, ha, rfl⟩ := exec_cases_of_not_execDone hk h hdone
  exact exec_faults hk ((badAddr_withF k s g).trans ha)

end

/-- A push leaves its low byte one below the old SP. -/
theorem byteAt_pushed_low (s : State) (v : U16) : byteAt (s.pushed v) (s.sp - 1).toNat = loByte v :=
  Memory.read_write_same ..

/-- Pushes of two words with the same high byte leave memories that differ in the low byte alone. -/
theorem byteAt_pushed_other (s : State) {v v' : U16} (hhi : hiByte v = hiByte v') {a : Nat} (ha : a ≠ (s.sp - 1).toNat) :
    byteAt (s.pushed v) a = byteAt (s.pushed v') a := by
  simp only [byteAt, State.pushed, Memory.read_write_other _ _ ha, hhi]

/-- Two pushes of AF that differ in F end in states that differ in F and the byte pushed alone (R31). -/
theorem frame_pushAf_withF (s : State) (g : U8) :
    Frame (Shape.pushAf.after s) (Shape.pushAf.after { s with f := g }) [] [(s.sp - 1).toNat] := by
  refine ⟨fun r _ => by cases r <;> rfl, fun a ha => ?_, rfl, rfl, rfl, rfl⟩
  have ha' : a ≠ (s.sp - 1).toNat := by simpa using ha
  exact byteAt_pushed_other s (by rw [State.af, hiByte_joinBytes, State.af, hiByte_joinBytes]) ha'

end Sys2Proof.Machine

namespace Sys2Proof.Proofs

open Sys2Proof.Machine Sys2Proof.Claims

/-- Settles O54: a fault leaves F, and so does every shape but the flag-computing ones and POP(AF); what the
flag-computing shapes write ends in four zero bits. -/
theorem onlyFlagWritersWriteF : Obligations.OnlyFlagWritersWriteF := by
  intro i s t h
  obtain ⟨k, hk⟩ := exists_shapeOf i
  rw [← eq_of_map_shapeOf hk (shapeOf_computesFlags i), ← shapeOf_eq_popAf i, hk, Option.some.injEq]
  obtain ⟨_, rfl⟩ | ⟨a, _, rfl⟩ := exec_cases hk h
  · refine ⟨fun hchanged => ?_, fun hflags _ => Shape.after_f_mod_16 s hflags⟩
    by_contra hneither
    obtain ⟨hflags, hpop⟩ := not_or.1 hneither
    exact hchanged (Shape.after_f s (Bool.eq_false_iff.2 hflags) hpop)
  · exact ⟨fun hchanged => absurd rfl hchanged, fun _ hdone => by cases hdone⟩

/-- Settles O55, clause by clause in its order: a shape that replaces F sees of the old one the bits it reads, a shape that
does neither carries it through, a fault depends on no flag, and PUSH(AF) stores it in the low byte. -/
theorem onlyFlagReadersDependOnF : Obligations.OnlyFlagReadersDependOnF := by
  intro i s t g h
  obtain ⟨k, hk⟩ := exists_shapeOf i
  have hflags : k.computesFlags = computesFlags i.tagged.family := eq_of_map_shapeOf hk (shapeOf_computesFlags i)
  have hreadsC := eq_of_map_shapeOf hk (shapeOf_readsC i)
  have hreadsZ := eq_of_map_shapeOf hk (shapeOf_readsZ i)
  have hreads : k.readsF = readsF i.tagged := eq_of_map_shapeOf hk (shapeOf_readsF i)
  have hpopAf : i = .popAF ↔ k = .popAf := by rw [← shapeOf_eq_popAf i, hk, Option.some.injEq]
  refine ⟨?_, ?_, exec_withF_of_not_execDone g hk h, ?_, ?_, ?_⟩
  · intro hnone hwrites hdone
    rw [← hreads, Shape.readsF_eq_false] at hnone
    obtain ⟨hC, hZ, _⟩ := hnone
    rw [← hflags, hpopAf] at hwrites
    exact exec_withF_same g hk hwrites (by simp [hC]) (by simp [hZ]) h (exec_cases_of_execDone hk h hdone).1
  · intro hnone hwrites hpop
    rw [← hreads, Shape.readsF_eq_false] at hnone
    obtain ⟨_, _, hpush⟩ := hnone
    exact exec_withF_carried g hk (hflags.trans hwrites) (mt hpopAf.2 hpop) hpush h
  · intro hfamily hCeq hdone
    have hwrites : k.computesFlags = true := by rcases hfamily with hf | hf <;> rw [hflags, hf] <;> rfl
    have hZ : k.readsZ = false := by rcases hfamily with hf | hf <;> rw [hreadsZ, hf] <;> rfl
    exact exec_withF_same g hk (.inl hwrites) (fun _ => hCeq) (by simp [hZ]) h (exec_cases_of_execDone hk h hdone).1
  · intro hfamily hZeq
    have hwrites : k.computesFlags = true := by rw [hflags, hfamily]; rfl
    have hC : k.readsC = false := by rw [hreadsC, hfamily]; rfl
    have hZ : k.readsZ = true := by rw [hreadsZ, hfamily]; rfl
    exact exec_withF_same g hk (.inl hwrites) (by simp [hC]) (fun _ => hZeq) h (Shape.badAddr_of_readsZ s hZ)
  · rintro rfl hdone
    cases hk
    obtain ⟨hok, rfl⟩ := exec_cases_of_execDone (k := .pushAf) rfl h hdone
    exact ⟨_, exec_completes rfl ((badAddr_withF .pushAf s g).trans hok), rfl, rfl,
      (byteAt_pushed_low s s.af).trans (loByte_joinBytes ..),
      (byteAt_pushed_low { s with f := g } _).trans (loByte_joinBytes ..), frame_pushAf_withF s g⟩

end Sys2Proof.Proofs
end

section
/-! The five interfaces (spec/11_interfaces.md): what a step does with each action the host can list, said once for an unfaulted
block, and the answer of every instruction, read off its shape. -/

namespace Sys2Proof.Machine

open Sys2Proof.Claims

/-! ## The host's next action -/

section
variable {s : State} {x : Input} {rest : List Input}

theorem step_of_inputs_nil (h : s.inputs = []) : step s = idleInstant s := by
  rw [step, h]

theorem step_of_inputs_cons (h : s.inputs = x :: rest) : step s = performInput x { s with inputs := rest } := by
  rw [step, h]

end

/-! ## An unfaulted block at its ports -/

section
variable {s : State} {p : PortInput} (hok : s.fault.valid = false)
include hok

theorem State.execReady_of_unfaulted : s.execReady = true := by
  simp [State.execReady, State.blockState, hok]

theorem State.hwReady_of_unfaulted (hexec : p.exec = none) : s.hwReady p = true := by
  simp [State.hwReady, State.blockState, hok, hexec]

/-- An instant without an action holds the state (spec/60_exceptions.md R278). -/
theorem idleInstant_of_unfaulted : idleInstant s = .next s.quiet :=
  if_pos (State.execReady_of_unfaulted hok)

/-- A word presented without reset is executed, whatever stands at the host-write port (spec/11_interfaces.md R52, R56). -/
theorem portInstant_word {w : Di32} (hrst : p.rst = false) (hexec : p.exec = some w) :
    portInstant p s = executeWord w s := by
  simp [portInstant, hrst, hexec, State.execReady_of_unfaulted hok]

/-- A host write presented alone is accepted (R56). -/
theorem portInstant_hostWrite {hw : HostWrite} (hrst : p.rst = false) (hexec : p.exec = none)
    (hwrite : p.hostWrite = some hw) : portInstant p s = .next (s.quiet.hostWrite hw) := by
  simp [portInstant, hrst, hexec, hwrite, State.hwReady_of_unfaulted hok hexec]

/-- An instant at the ports with nothing presented holds the state (R278). -/
theorem portInstant_nothing (hrst : p.rst = false) (hexec : p.exec = none) (hwrite : p.hostWrite = none) :
    portInstant p s = .next s.quiet := by
  simp [portInstant, hrst, hexec, hwrite, idleInstant_of_unfaulted hok]

/-- The step of a word presented without reset. -/
theorem step_of_word {w : Di32} {rest : List Input} (hin : s.inputs = .ports p :: rest) (hrst : p.rst = false)
    (hexec : p.exec = some w) : step s = executeWord w { s with inputs := rest } :=
  (step_of_inputs_cons hin).trans (portInstant_word (s := { s with inputs := rest }) hok hrst hexec)

end

/-- An accepted legal word is the instruction it decodes to. -/
theorem executeWord_of_decode {w : Di32} {i : Instr} (s : State) (h : decode w = .ok i) : executeWord w s = exec i s := by
  rw [executeWord, h]

/-! ## The host's store into its own memory -/

theorem hostStore_valid {a : U16} {v : U8} {s : State} (h : a.toNat < s.cfg.memSize) :
    hostStore a v s = .next { s.quiet with mem := Memory.write s.mem a.toNat v } :=
  if_pos ((State.validAddr_iff s a).2 h)

theorem hostStore_invalid {a : U16} {v : U8} {s : State} (h : s.cfg.memSize ≤ a.toNat) :
    hostStore a v s = .refused (.hostStoreOutsideBuffer a) :=
  if_neg (mt (State.validAddr_iff s a).1 (Nat.not_lt.2 h))

/-! ## The bytes of a host write -/

theorem ofNat_div_256_eq_hiByte (d : U16) : BitVec.ofNat 8 (d.toNat / 256) = hiByte d := by
  apply BitVec.eq_of_toNat_eq
  rw [BitVec.toNat_ofNat, toNat_hiByte]
  omega

theorem ofNat_eq_loByte (d : U16) : BitVec.ofNat 8 d.toNat = loByte d := by
  apply BitVec.eq_of_toNat_eq
  rw [BitVec.toNat_ofNat, toNat_loByte]

theorem ite_eq_fLow (p : FLowPolicy) (b : U8) : (if p = .retain then b else b &&& 0xF0#8) = fLow p b := by
  cases p <;> rfl

end Sys2Proof.Machine

namespace Sys2Proof.Proofs

open Sys2Proof.Machine Sys2Proof.Claims

/-- Settles O46: the write is accepted, and its effect is the table's row for each of the sixteen selectors. -/
theorem hostWritesFollowTheSelectorTable : Obligations.HostWritesFollowTheSelectorTable := by
  intro s d rest sel hok hin
  have haccepted : step s = .next (({ s with inputs := rest } : State).quiet.hostWrite { sel := sel, data := d }) :=
    (step_of_inputs_cons hin).trans (portInstant_hostWrite (s := { s with inputs := rest }) hok rfl rfl rfl)
  simp only [haccepted, ofNat_div_256_eq_hiByte, ofNat_eq_loByte, ite_eq_fLow]
  obtain ⟨n⟩ := sel
  fin_cases n <;> rfl

/-- Settles O50: every instruction has a shape, which completes with every address in range and otherwise faults at the
first one out of range. -/
theorem everyInstructionAnswersNextState : Obligations.EveryInstructionAnswersNextState := by
  intro i s
  obtain ⟨k, hk⟩ := exists_shapeOf i
  cases hbad : k.badAddr s with
  | none => exact ⟨_, exec_completes hk hbad, .inl (Shape.after_execDone s k)⟩
  | some a => exact ⟨_, exec_faults hk hbad, .inr ⟨a, rfl⟩⟩

/-- Settles O47: the port takes the word first; with nothing to take, only the record of the last step is cleared. -/
theorem wordWinsOverHostWriteAndIdleHolds : Obligations.WordWinsOverHostWriteAndIdleHolds := by
  intro s hok
  refine ⟨fun w hw rest hin => step_of_word hok hin rfl rfl, fun rest hin => ?_, fun hin => ?_⟩
  · have hidle : step s = .next ({ s with inputs := rest } : State).quiet :=
      (step_of_inputs_cons hin).trans (portInstant_nothing (s := { s with inputs := rest }) hok rfl rfl rfl)
    exact ⟨_, hidle, rfl, rfl, rfl⟩
  · exact ⟨_, (step_of_inputs_nil hin).trans (idleInstant_of_unfaulted hok), rfl, rfl, rfl⟩

/-- Settles O48: the store is one memory write below MEM_SIZE, and refused from there on. -/
theorem hostStoreReplacesOneByte : Obligations.HostStoreReplacesOneByte := by
  intro s a v rest hin
  have hstep : step s = hostStore a v { s with inputs := rest } := step_of_inputs_cons hin
  refine ⟨fun ha => ⟨_, hstep.trans (hostStore_valid ha), rfl, rfl, rfl, ?_, fun b hb => ?_⟩,
    fun ha => hstep.trans (hostStore_invalid ha)⟩
  · exact Memory.read_write_same ..
  · exact Memory.read_write_other _ _ hb

/-- Settles O49: the port hands the word to the decoder; `withFetchWord` lists such a word, its 32 bits kept. -/
theorem stepRunsTheDecodedInstruction : Obligations.StepRunsTheDecodedInstruction := by
  constructor
  · intro s p w i rest hok hin hrst hexec hdec
    rw [step_of_word hok hin hrst hexec, executeWord_of_decode _ hdec]
  · intro s w i hok hw hdec
    have hlisted : (s.withFetchWord 32 w).inputs = presentWord (BitVec.ofNat 32 w) :: s.inputs := by
      rw [State.withFetchWord, Nat.mod_eq_of_lt hw]
    exact (step_of_word (s := s.withFetchWord 32 w) hok hlisted rfl rfl).trans (executeWord_of_decode s hdec)

end Sys2Proof.Proofs
end

section
/-! The memory list (spec/20_memory.md R70 to R74): a canonical list is determined by what it reads, and the accesses of a step,
made one after the other inside the buffer, keep it canonical and inside. -/

namespace Sys2Proof.Machine

open Sys2Proof.Claims

/-! ## The entries of a canonical list -/

/-- With addresses rising strictly, a listed byte is the one its address reads. -/
theorem Memory.read_of_mem {m : Memory} (hm : m.Pairwise fun x y => x.1 < y.1) {x : Host.Cell} (hx : x ∈ m) :
    Memory.read m x.1 = x.2 := by
  induction m with
  | nil => cases hx
  | cons cell m ih =>
    obtain ⟨hcell, hm⟩ := List.pairwise_cons.1 hm
    obtain rfl | hx := List.mem_cons.1 hx
    · simp [Memory.read]
    · rw [Memory.read, if_neg (hcell x hx).ne, ih hm hx]

/-- An address that does not read as an unlisted one is listed. -/
theorem Memory.mem_of_read {m : Memory} {a : Nat} (ha : Memory.read m a ≠ Memory.unlisted) : (a, Memory.read m a) ∈ m := by
  induction m with
  | nil => exact absurd rfl ha
  | cons cell m ih =>
    obtain ⟨k, v⟩ := cell
    by_cases hk : k = a
    · simp [Memory.read, hk]
    · rw [Memory.read, if_neg hk] at ha ⊢
      exact List.mem_cons_of_mem _ (ih ha)

/-- The canonical form in the library's words. -/
theorem Memory.wf_iff {m : Memory} :
    Memory.wf m = true ↔ m.Pairwise (fun x y => x.1 < y.1) ∧ ∀ x ∈ m, x.2 ≠ Memory.unlisted := by
  simp [Memory.wf, Memory.sorted_iff, Memory.noDefault]

/-- What a canonical list lists is what reads as no unlisted address does. -/
theorem Memory.mem_iff_read {m : Memory} (hm : Memory.wf m = true) (x : Host.Cell) :
    x ∈ m ↔ Memory.read m x.1 = x.2 ∧ x.2 ≠ Memory.unlisted := by
  obtain ⟨hsorted, hlisted⟩ := Memory.wf_iff.1 hm
  constructor
  · intro hx
    exact ⟨Memory.read_of_mem hsorted hx, hlisted x hx⟩
  · rintro ⟨hread, hx⟩
    rw [← hread] at hx
    simpa [hread] using Memory.mem_of_read hx

/-- Lists in rising order of addresses with the same entries are equal. -/
theorem Memory.eq_of_mem_iff {m m' : Memory} (hm : m.Pairwise fun x y => x.1 < y.1)
    (hm' : m'.Pairwise fun x y => x.1 < y.1) (h : ∀ x, x ∈ m ↔ x ∈ m') : m = m' :=
  have : Std.Antisymm fun x y : Host.Cell => x.1 < y.1 := ⟨fun _ _ hxy hyx => absurd hyx hxy.asymm⟩
  have : Std.Irrefl fun x y : Host.Cell => x.1 < y.1 := ⟨fun x => lt_irrefl x.1⟩
  hm.eq_of_mem_iff hm' h

/-! ## Accesses inside the buffer -/

section
variable {m : Memory} {xs : List Access}

theorem Memory.wf_foldl_apply (h : Memory.wf m = true) : Memory.wf (xs.foldl Access.apply m) = true := by
  induction xs generalizing m with
  | nil => exact h
  | cons x xs ih =>
    cases x with
    | read a v => exact ih h
    | write a v => exact ih (Memory.wf_write _ v h)

theorem Memory.fits_foldl_apply {size : Nat} (hxs : ∀ x ∈ xs, (accessKind x).2.toNat < size)
    (h : Memory.fits size m = true) : Memory.fits size (xs.foldl Access.apply m) = true := by
  induction xs generalizing m with
  | nil => exact h
  | cons x xs ih =>
    obtain ⟨hfirst, hrest⟩ := List.forall_mem_cons.1 hxs
    cases x with
    | read a v => exact ih hrest h
    | write a v => exact ih hrest (Memory.fits_write v hfirst h)

end

end Sys2Proof.Machine

namespace Sys2Proof.Proofs

open Sys2Proof.Machine Sys2Proof.Claims

/-- Settles O38: the port answers the address from MEM_SIZE on; below it a read leaves the list and a write is one write of
the list. -/
theorem memoryAccessesReadAndReplaceOneByte : Obligations.MemoryAccessesReadAndReplaceOneByte := by
  intro s a v
  refine ⟨fun ha => ⟨memRead_invalid ha, memWrite_invalid ha⟩, fun ha =>
    ⟨⟨_, memRead_valid ha, rfl, rfl⟩, _, memWrite_valid ha, rfl, ?_, fun b hb => ?_⟩⟩
  · exact Memory.read_write_same ..
  · exact Memory.read_write_other _ _ hb

/-- Settles O39: in the canonical form, what is listed is told by what is read, and the order by the addresses. -/
theorem canonicalMemoriesThatReadAlikeAreEqual : Obligations.CanonicalMemoriesThatReadAlikeAreEqual := by
  intro m m' hm hm' hread
  refine Memory.eq_of_mem_iff (Memory.wf_iff.1 hm).1 (Memory.wf_iff.1 hm').1 fun x => ?_
  rw [Memory.mem_iff_read hm, Memory.mem_iff_read hm', hread]

end Sys2Proof.Proofs
end

section
/-! The accesses of a step (spec/20_memory.md R82, R83): a completed instruction makes those its shape lists, which are those
the table lists for its tags, and its memory is the old one after them. -/

namespace Sys2Proof.Machine

open Sys2Proof.Claims

/-! ## The accesses of an operand -/

/-- The accesses of storing to a destination operand. -/
def Dst.writes (d : Dst) (v : U8) (s : State) : List Access :=
  match d.addr s with
  | some a => [.write a v]
  | none => []

theorem Src.reads_kinds (x : Src) (s : State) : (x.reads s).map accessKind = (x.addr s).toList.map (false, ·) := by
  cases x <;> rfl

theorem Dst.writes_kinds (d : Dst) (v : U8) (s : State) :
    (d.writes v s).map accessKind = (d.addr s).toList.map (true, ·) := by
  cases d <;> rfl

/-- A read leaves memory as it is. -/
theorem Src.foldl_reads (x : Src) (s : State) (m : Memory) : (x.reads s).foldl Access.apply m = m := by
  cases x <;> rfl

theorem Dst.put_accesses (d : Dst) (v : U8) (s : State) :
    (d.put v s).out.accesses = s.out.accesses ++ d.writes v s := by
  cases d with
  | reg r => simp [Dst.put, Dst.writes, Dst.addr]
  | ind _ | abs _ => rfl

theorem Dst.put_mem (d : Dst) (v : U8) (s : State) : (d.put v s).mem = (d.writes v s).foldl Access.apply s.mem := by
  cases d with
  | reg r => exact State.setReg_mem ..
  | ind _ | abs _ => rfl

/-! ## The accesses of a shape -/

/-- The accesses of a completed shape, in order (spec/20_memory.md R82). -/
def Shape.accesses (s : State) : Shape → List Access
  | .move d x => x.reads s ++ d.writes (x.value s) (s.quiet.recordAll (x.reads s))
  | .alu _ x => x.reads s
  | .pushPair p => (s.pushed (s.pair p)).out.accesses
  | .pushAf => (s.pushed s.af).out.accesses
  | .popPair _ | .popAf => s.poppedReads.out.accesses
  | .loadPair _ _ | .incReg _ | .incHL | .add16 _ => []

/-- The kinds and addresses of a shape's accesses, in order: the table of R82 by shapes. -/
def Shape.accessTable (s : State) : Shape → List (Bool × U16)
  | .move d x => (x.addr s).toList.map (false, ·) ++ (d.addr s).toList.map (true, ·)
  | .alu _ x => (x.addr s).toList.map (false, ·)
  | .pushPair _ | .pushAf => [(true, s.sp), (true, s.sp - 1)]
  | .popPair _ | .popAf => [(false, s.sp + 1), (false, s.sp + 2)]
  | .loadPair _ _ | .incReg _ | .incHL | .add16 _ => []

/-- The table by shapes is the table by tags. -/
theorem shapeOf_accessTable (i : Instr) (s : State) :
    (shapeOf i.tagged).map (Shape.accessTable s) = some (Claims.accessTable i.tagged s) := by
  cases i <;> rfl

theorem Shape.accessTable_addrs (s : State) (k : Shape) : (k.accessTable s).map Prod.snd = k.addrs s := by
  cases k with
  | move d x => simp [Shape.accessTable, Shape.addrs, Function.comp_def]
  | alu op x => simp [Shape.accessTable, Shape.addrs, Function.comp_def]
  | _ => rfl

theorem Shape.length_accessTable_le (s : State) (k : Shape) : (k.accessTable s).length ≤ 2 := by
  cases k with
  | move d x =>
    have hx := (x.addr s).length_toList_le
    have hd := (d.addr s).length_toList_le
    simp only [Shape.accessTable, List.length_append, List.length_map]
    omega
  | alu op x =>
    have hx := (x.addr s).length_toList_le
    simp only [Shape.accessTable, List.length_map]
    omega
  | pushPair _ | pushAf | popPair _ | popAf => exact le_rfl
  | loadPair _ _ | incReg _ | incHL | add16 _ => exact Nat.zero_le _

theorem Shape.accesses_kinds (s : State) (k : Shape) : (k.accesses s).map accessKind = k.accessTable s := by
  cases k with
  | move d x => simp [Shape.accesses, Shape.accessTable, Src.reads_kinds, Dst.writes_kinds]
  | alu op x => exact Src.reads_kinds x s
  | _ => rfl

/-! ## What a completed shape leaves -/

theorem Shape.after_accesses (s : State) (k : Shape) : (k.after s).out.accesses = k.accesses s := by
  cases k with
  | move d x => exact Dst.put_accesses ..
  | alu op x => cases op <;> rfl
  | loadPair p n => simp [Shape.after, Shape.accesses, State.loadPair, Outputs.quiet]
  | pushPair _ | pushAf | popAf => rfl
  | popPair p => simp [Shape.after, Shape.accesses, State.popped]
  | incReg r => simp [Shape.after, Shape.accesses, State.incReg, Outputs.quiet]
  | incHL => simp [Shape.after, Shape.accesses, State.incHL, Outputs.quiet]
  | add16 x => simp [Shape.after, Shape.accesses, State.add16, Outputs.quiet]

/-- The bytes a completed shape has stored are its writes, in order. -/
theorem Shape.after_mem_eq_foldl (s : State) (k : Shape) :
    (k.after s).mem = (k.accesses s).foldl Access.apply s.mem := by
  cases k with
  | move d x => simp [Shape.after, Shape.accesses, Dst.put_mem, Src.foldl_reads]
  | alu op x => exact (Shape.after_mem s rfl).trans (Src.foldl_reads ..).symm
  | pushPair _ | pushAf => rfl
  | _ => exact Shape.after_mem s rfl

/-- A completed shape leaves the parameters and the latch (spec/10_state.md R41). -/
theorem Shape.after_keeps (s : State) (k : Shape) : (k.after s).cfg = s.cfg ∧ (k.after s).fault = s.fault := by
  cases k with
  | move d x => cases d <;> simp [Shape.after, Dst.put, State.recordAll]
  | alu op x => cases op <;> exact ⟨rfl, rfl⟩
  | loadPair p n => simp [Shape.after, State.loadPair]
  | pushPair _ | pushAf | popAf => exact ⟨rfl, rfl⟩
  | popPair p => simp [Shape.after, State.popped, State.poppedReads]
  | incReg r => simp [Shape.after, State.incReg]
  | incHL => simp [Shape.after, State.incHL]
  | add16 x => simp [Shape.after, State.add16]

/-- With no address out of range, every access is inside the buffer. -/
theorem Shape.accesses_in_range {s : State} {k : Shape} (h : k.badAddr s = none) {x : Access} (hx : x ∈ k.accesses s) :
    (accessKind x).2.toNat < s.cfg.memSize := by
  refine Shape.badAddr_eq_none.1 h _ ?_
  rw [← Shape.accessTable_addrs, ← Shape.accesses_kinds, List.map_map]
  exact List.mem_map_of_mem hx

end Sys2Proof.Machine

namespace Sys2Proof.Proofs

open Sys2Proof.Machine Sys2Proof.Claims

/-- Settles O56: a completed step made its shape's accesses, which the table lists; a faulted one made none. -/
theorem stepsMakeTheListedAccesses : Obligations.StepsMakeTheListedAccesses := by
  intro i s t h
  obtain ⟨k, hk⟩ := exists_shapeOf i
  have htable : k.accessTable s = accessTable i.tagged s := by simpa [hk] using shapeOf_accessTable i s
  obtain ⟨_, rfl⟩ | ⟨a, _, rfl⟩ := exec_cases hk h
  · have hkinds : (k.after s).out.accesses.map accessKind = k.accessTable s := by
      rw [Shape.after_accesses, Shape.accesses_kinds]
    refine ⟨fun _ => hkinds.trans htable, fun hdone => ?_, ?_⟩
    · cases (Shape.after_execDone s k).symm.trans hdone
    · simpa [← hkinds] using Shape.length_accessTable_le s k
  · exact ⟨nofun, fun _ => rfl, Nat.zero_le _⟩

end Sys2Proof.Proofs
end

section
/-! The machine's invariant (spec/20_memory.md R72, spec/00_scope.md R7, spec/60_exceptions.md R263). Every step is some
accesses inside the buffer, the same parameters, and a latch that is kept, cleared by reset, or set by a word. -/

namespace Sys2Proof

/-! ## An encoded instruction is a legal word -/

theorem Instr.tagged_wellFormed (i : Instr) : i.tagged.wellFormed = true := by
  cases i with
  | ldnA n | ldnB n | ldnC n | ldnD n | ldnE n | ldnH n | ldnL n | ldnPairBC n | ldnPairDE n | ldnPairHL n | ldaFromImm n
  | addImm n | adcImm n | subImm n | sbcImm n | cpImm n | andImm n | orImm n | xorImm n =>
    exact Laws.LegalTags.of_immediate _ n rfl rfl rfl (.inr rfl)
  | _ => rfl

/-- The tags of an instruction select an instruction. -/
theorem Instr.exists_instr_tagged (i : Instr) : ∃ j, i.tagged.instr = some j := by
  cases i <;> exact ⟨_, rfl⟩

theorem decode_word_of_wellFormed {t : Tagged} {i : Instr} (ht : t.wellFormed = true) (hi : t.instr = some i) :
    decode t.word = .ok i := by
  have hlegal : t.illegality = none := beq_iff_eq.1 ht
  simp [decode, hlegal, hi]

/-- The word a fault records is legal (spec/30_encoding.md R110). -/
theorem exists_decode_encode (i : Instr) : ∃ j, decode (encode i) = .ok j := by
  obtain ⟨j, hj⟩ := i.exists_instr_tagged
  exact ⟨j, decode_word_of_wellFormed i.tagged_wellFormed hj⟩

end Sys2Proof

namespace Sys2Proof.Machine

open Sys2Proof.Claims

/-! ## The latch -/

section
variable {size : Nat}

theorem FaultLatch.wf_none : FaultLatch.none.wf size := rfl

theorem FaultLatch.wf_memOutOfRange {a : U16} {i : Instr} (h : size ≤ a.toNat) :
    FaultLatch.wf size { valid := true, code := Cause.memOutOfRange.code, addr := a, word := encode i } :=
  .inl ⟨rfl, h, exists_decode_encode i⟩

theorem FaultLatch.wf_invariantViolation {w : Di32} {why : Illegal} (h : decode w = .error why) :
    FaultLatch.wf size { valid := true, code := Cause.invariantViolation.code, addr := 0, word := w } :=
  .inr ⟨rfl, rfl, why, h⟩

end

/-! ## What an accepted word does -/

/-- From `s` to `t` these accesses were made, all inside the buffer; the parameters are the same and the latch is one that a
fault can leave. -/
structure Reaches (s t : State) (xs : List Access) : Prop where
  inRange : ∀ x ∈ xs, (accessKind x).2.toNat < s.cfg.memSize
  mem : t.mem = xs.foldl Access.apply s.mem
  cfg : t.cfg = s.cfg
  latch : t.fault.wf s.cfg.memSize

/-- Accesses inside the buffer and a latch a fault can leave keep the invariant. -/
theorem State.Inv.of_reaches {s t : State} {xs : List Access} (hs : s.Inv) (h : Reaches s t xs) : t.Inv where
  memCanonical := h.mem ▸ Memory.wf_foldl_apply hs.memCanonical
  memInBuffer := h.cfg ▸ h.mem ▸ Memory.fits_foldl_apply h.inRange hs.memInBuffer
  params := h.cfg ▸ hs.params
  latch := h.cfg ▸ h.latch

/-- A change of registers, inputs and outputs alone. -/
theorem Reaches.of_same {s t : State} (hs : s.Inv) (hmem : t.mem = s.mem) (hcfg : t.cfg = s.cfg)
    (hfault : t.fault = s.fault) : Reaches s t [] where
  inRange := nofun
  mem := hmem
  cfg := hcfg
  latch := hfault ▸ hs.latch

theorem Reaches.takeFault {s : State} {cause : Cause} {a : U16} {w : Di32}
    (h : FaultLatch.wf s.cfg.memSize { valid := true, code := cause.code, addr := a, word := w }) :
    Reaches s (s.takeFault cause a w) (s.takeFault cause a w).out.accesses where
  inRange := nofun
  mem := rfl
  cfg := rfl
  latch := h

/-- An instruction makes the accesses it records. -/
theorem exec_reaches {i : Instr} {s t : State} (hs : s.Inv) (h : exec i s = .next t) : Reaches s t t.out.accesses := by
  obtain ⟨k, hk⟩ := exists_shapeOf i
  obtain ⟨hok, rfl⟩ | ⟨a, hbad, rfl⟩ := exec_cases hk h
  · obtain ⟨hcfg, hfault⟩ := Shape.after_keeps s k
    rw [Shape.after_accesses]
    exact ⟨fun _ hx => Shape.accesses_in_range hok hx, Shape.after_mem_eq_foldl s k, hcfg, hfault ▸ hs.latch⟩
  · exact .takeFault (FaultLatch.wf_memOutOfRange (by simpa using List.find?_some hbad))

theorem executeWord_of_decode_error {w : Di32} {why : Illegal} (s : State) (h : decode w = .error why) :
    executeWord w s = .next (s.takeFault .invariantViolation 0 w) := by
  rw [executeWord, h]

theorem executeWord_reaches {w : Di32} {s t : State} (hs : s.Inv) (h : executeWord w s = .next t) :
    Reaches s t t.out.accesses := by
  cases hw : decode w with
  | ok i => exact exec_reaches hs ((executeWord_of_decode s hw).symm.trans h)
  | error why =>
    cases (executeWord_of_decode_error s hw).symm.trans h
    exact .takeFault (FaultLatch.wf_invariantViolation hw)

/-- The accesses of a word are inside the buffer, whether it is accepted or not. -/
theorem wordAccesses_in_range {w : Di32} {s : State} (hs : s.Inv) {x : Access} (hx : x ∈ wordAccesses w s) :
    (accessKind x).2.toNat < s.cfg.memSize := by
  unfold wordAccesses at hx
  split at hx
  · split at hx
    · next t h => exact (executeWord_reaches hs h).inRange x hx
    · cases hx
    · cases hx
  · cases hx

/-! ## What a step can do -/

theorem idleInstant_cases {s t : State} (h : idleInstant s = .next t) : t = s.quiet := by
  unfold idleInstant at h
  split at h
  · exact (Host.Outcome.next.inj h).symm
  · cases h

/-- What an instant at the ports can do: reset, an accepted word, an accepted host write, or nothing. -/
theorem portInstant_cases {p : PortInput} {s t : State} (h : portInstant p s = .next t) :
    t = s.resetBlock ∨ (∃ w, executeWord w s = .next t) ∨ (∃ hw, t = s.quiet.hostWrite hw) ∨ t = s.quiet := by
  unfold portInstant at h
  split at h
  · exact .inl (Host.Outcome.next.inj h).symm
  · split at h
    · next w _ =>
      split at h
      · exact .inr (.inl ⟨w, h⟩)
      · cases h
    · split at h
      · next hw _ =>
        split at h
        · exact .inr (.inr (.inl ⟨hw, (Host.Outcome.next.inj h).symm⟩))
        · cases h
      · exact .inr (.inr (.inr (idleInstant_cases h)))

theorem hostStore_cases {a : U16} {v : U8} {s t : State} (h : hostStore a v s = .next t) :
    a.toNat < s.cfg.memSize ∧ t = { s.quiet with mem := Memory.write s.mem a.toNat v } := by
  obtain ha | ha := lt_or_ge a.toNat s.cfg.memSize
  · exact ⟨ha, (Host.Outcome.next.inj ((hostStore_valid ha).symm.trans h)).symm⟩
  · cases (hostStore_invalid ha).symm.trans h

/-- A step is an idle instant, or the host's next action on the state without it. -/
theorem step_cases {s t : State} (h : step s = .next t) :
    t = s.quiet ∨ ∃ x rest, performInput x { s with inputs := rest } = .next t := by
  cases hin : s.inputs with
  | nil => exact .inl (idleInstant_cases ((step_of_inputs_nil hin).symm.trans h))
  | cons x rest => exact .inr ⟨x, rest, (step_of_inputs_cons hin).symm.trans h⟩

/-! ## The invariant -/

/-- A host write changes registers alone (spec/11_interfaces.md R57). -/
theorem State.hostWrite_keeps (s : State) (w : HostWrite) :
    (s.hostWrite w).mem = s.mem ∧ (s.hostWrite w).cfg = s.cfg ∧ (s.hostWrite w).fault = s.fault := by
  unfold State.hostWrite
  split <;> exact ⟨rfl, rfl, rfl⟩

section
variable {s : State} (hs : s.Inv)
include hs

theorem State.Inv.withInputs (rest : List Input) : ({ s with inputs := rest } : State).Inv :=
  hs.of_reaches (.of_same hs rfl rfl rfl)

theorem State.Inv.quiet : s.quiet.Inv :=
  hs.of_reaches (.of_same hs rfl rfl rfl)

theorem State.Inv.hostWrite (w : HostWrite) : (s.hostWrite w).Inv := by
  obtain ⟨hmem, hcfg, hfault⟩ := State.hostWrite_keeps s w
  exact hs.of_reaches (.of_same hs hmem hcfg hfault)

theorem State.Inv.resetBlock : s.resetBlock.Inv :=
  hs.of_reaches (xs := []) ⟨nofun, rfl, rfl, FaultLatch.wf_none⟩

theorem State.Inv.hostStore {a : U16} (v : U8) (ha : a.toNat < s.cfg.memSize) :
    ({ s.quiet with mem := Memory.write s.mem a.toNat v } : State).Inv :=
  hs.of_reaches (xs := [.write a v]) ⟨by simpa [accessKind] using ha, rfl, rfl, hs.latch⟩

theorem State.Inv.abandonedStep (w : Di32) (made : Nat) : (abandonedStep w made s).Inv :=
  hs.of_reaches (xs := (wordAccesses w s).take made)
    ⟨fun _ hx => wordAccesses_in_range hs (List.mem_of_mem_take hx), rfl, rfl, FaultLatch.wf_none⟩

end

theorem portInstant_keeps_inv {p : PortInput} {s t : State} (hs : s.Inv) (h : portInstant p s = .next t) : t.Inv := by
  obtain rfl | ⟨w, hw⟩ | ⟨hw, rfl⟩ | rfl := portInstant_cases h
  · exact hs.resetBlock
  · exact hs.of_reaches (executeWord_reaches hs hw)
  · exact hs.quiet.hostWrite hw
  · exact hs.quiet

theorem performInput_keeps_inv {x : Input} {s t : State} (hs : s.Inv) (h : performInput x s = .next t) : t.Inv := by
  cases x with
  | ports p => exact portInstant_keeps_inv hs h
  | memory a v =>
    obtain ⟨ha, rfl⟩ := hostStore_cases h
    exact hs.hostStore v ha
  | abandoned w made =>
    obtain rfl : _ = t := Host.Outcome.next.inj h
    exact hs.abandonedStep w made

end Sys2Proof.Machine

namespace Sys2Proof.Proofs

open Sys2Proof.Machine Sys2Proof.Claims

/-- Settles O57: an idle instant keeps the invariant, and so does each of the host's actions. -/
theorem stepKeepsInvariant : Obligations.StepKeepsInvariant := by
  intro s t hs h
  obtain rfl | ⟨x, rest, hx⟩ := step_cases h
  · exact hs.quiet
  · exact performInput_keeps_inv (hs.withInputs rest) hx

end Sys2Proof.Proofs
end

section
/-! Decoding and encoding (spec/30_encoding.md R100 to R113). A legal word and its tags determine each other, so that the
decoder and the encoder are inverse; and the opcode table lists, in the order of the constructors, the rows that the tags give:
all bits fixed but those of the literal. -/

namespace Sys2Proof

open Sys2Proof.Machine

/-! ## The tags of each builder (R109) -/

@[simp] theorem Instr.tagged_ldnReg (r : Reg) (n : U8) : (Instr.ldnReg r n).tagged = ⟨.ldn, .reg r, .imm, 0#8 ++ n⟩ := by
  cases r <;> rfl

@[simp] theorem Instr.tagged_ldnPair (p : Pair) (n : U8) : (Instr.ldnPair p n).tagged = ⟨.ldn, .pair p, .imm, 0#8 ++ n⟩ := by
  cases p <;> rfl

@[simp] theorem Instr.tagged_ldrrRegReg (r r' : Reg) : (Instr.ldrrRegReg r r').tagged = ⟨.ldrr, .reg r, .reg r', 0⟩ := by
  cases r <;> cases r' <;> rfl

@[simp] theorem Instr.tagged_ldrrRegMem (r : Reg) : (Instr.ldrrRegMem r).tagged = ⟨.ldrr, .reg r, .ind .HL, 0⟩ := by
  cases r <;> rfl

@[simp] theorem Instr.tagged_ldrrMemReg (r : Reg) : (Instr.ldrrMemReg r).tagged = ⟨.ldrr, .ind .HL, .reg r, 0⟩ := by
  cases r <;> rfl

@[simp] theorem Instr.tagged_ldaReg (r : Reg) : (Instr.ldaReg r).tagged = ⟨.lda, .none, .reg r, 0⟩ := by
  cases r <;> rfl

@[simp] theorem Instr.tagged_ldaInd (p : Pair) : (Instr.ldaInd p).tagged = ⟨.lda, .none, .ind p, 0⟩ := by
  cases p <;> rfl

@[simp] theorem Instr.tagged_ldfaReg (r : Reg) : (Instr.ldfaReg r).tagged = ⟨.ldfa, .reg r, .none, 0⟩ := by
  cases r <;> rfl

@[simp] theorem Instr.tagged_ldfaInd (p : Pair) : (Instr.ldfaInd p).tagged = ⟨.ldfa, .ind p, .none, 0⟩ := by
  cases p <;> rfl

@[simp] theorem Instr.tagged_pushPair (p : Pair) : (Instr.pushPair p).tagged = ⟨.push, .none, .pair p, 0⟩ := by
  cases p <;> rfl

@[simp] theorem Instr.tagged_popPair (p : Pair) : (Instr.popPair p).tagged = ⟨.pop, .pair p, .none, 0⟩ := by
  cases p <;> rfl

@[simp] theorem Instr.tagged_addReg (r : Reg) : (Instr.addReg r).tagged = ⟨.add, .none, .reg r, 0⟩ := by
  cases r <;> rfl

@[simp] theorem Instr.tagged_adcReg (r : Reg) : (Instr.adcReg r).tagged = ⟨.adc, .none, .reg r, 0⟩ := by
  cases r <;> rfl

@[simp] theorem Instr.tagged_subReg (r : Reg) : (Instr.subReg r).tagged = ⟨.sub, .none, .reg r, 0⟩ := by
  cases r <;> rfl

@[simp] theorem Instr.tagged_sbcReg (r : Reg) : (Instr.sbcReg r).tagged = ⟨.sbc, .none, .reg r, 0⟩ := by
  cases r <;> rfl

@[simp] theorem Instr.tagged_cpReg (r : Reg) : (Instr.cpReg r).tagged = ⟨.cp, .none, .reg r, 0⟩ := by
  cases r <;> rfl

@[simp] theorem Instr.tagged_andReg (r : Reg) : (Instr.andReg r).tagged = ⟨.and, .none, .reg r, 0⟩ := by
  cases r <;> rfl

@[simp] theorem Instr.tagged_orReg (r : Reg) : (Instr.orReg r).tagged = ⟨.or, .none, .reg r, 0⟩ := by
  cases r <;> rfl

@[simp] theorem Instr.tagged_xorReg (r : Reg) : (Instr.xorReg r).tagged = ⟨.xor, .none, .reg r, 0⟩ := by
  cases r <;> rfl

@[simp] theorem Instr.tagged_incReg (r : Reg) : (Instr.incReg r).tagged = ⟨.inc, .reg r, .none, 0⟩ := by
  cases r <;> rfl

@[simp] theorem Instr.tagged_add16Pair (p : Pair) : (Instr.add16Pair p).tagged = ⟨.add16, .none, .pair p, 0⟩ := by
  cases p <;> rfl

/-! ## Tags and instructions -/

/-- The part of K that a form uses (R106 to R108): all of it with ABS, its low byte with IMM, none of it otherwise. -/
def Tagged.usedLiteral (t : Tagged) : U16 :=
  if t.x = .abs ∨ t.y = .abs then t.k
  else if t.x = .imm ∨ t.y = .imm then 0#8 ++ loByte t.k
  else 0

/-- A legal literal has no bit that its form does not use. -/
theorem Tagged.usedLiteral_of_legal {t : Tagged} (h : t.literalFault = none) : t.usedLiteral = t.k := by
  unfold Tagged.literalFault at h
  unfold Tagged.usedLiteral
  split_ifs at h ⊢ with _ _ hlt hzero
  · rfl
  · exact immediate_of_low hlt
  · exact hzero.symm

theorem Tagged.literalFault_of_wellFormed {t : Tagged} (h : t.wellFormed = true) : t.literalFault = none := by
  have hlegal : t.illegality = none := beq_iff_eq.1 h
  unfold Tagged.illegality at hlegal
  split_ifs at hlegal
  exact hlegal

/-- The instruction of a tagged value has its family, its slots and the part of K that they use. -/
theorem Tagged.tagged_of_instr {t : Tagged} {i : Instr} (h : t.instr = some i) :
    i.tagged = { t with k := t.usedLiteral } := by
  obtain ⟨f, x, y, k⟩ := t
  unfold Tagged.instr at h
  dsimp only at h
  split at h <;> cases h
  any_goals rfl
  all_goals simp [Tagged.usedLiteral, loByte]

/-- The tags of an instruction select that instruction. -/
@[simp] theorem Instr.instr_tagged (i : Instr) : i.tagged.instr = some i := by
  cases i with
  | ldnA n | ldnB n | ldnC n | ldnD n | ldnE n | ldnH n | ldnL n | ldnPairBC n | ldnPairDE n | ldnPairHL n | ldaFromImm n
  | addImm n | adcImm n | subImm n | sbcImm n | cpImm n | andImm n | orImm n | xorImm n =>
    conv_rhs => rw [← loByte_immediate n]
    rfl
  | _ => rfl

/-- Another legal literal in an instruction's tags is another instruction of the same constructor. -/
theorem Instr.exists_tagged_eq (i : Instr) {k : U16} (h : ({ i.tagged with k := k } : Tagged).literalFault = none) :
    ∃ j : Instr, j.tagged = { i.tagged with k := k } ∧ j.ctorIdx = i.ctorIdx := by
  obtain ⟨j, hj, hidx⟩ : ∃ j, ({ i.tagged with k := k } : Tagged).instr = some j ∧ j.ctorIdx = i.ctorIdx := by
    cases i <;> exact ⟨_, rfl, rfl⟩
  refine ⟨j, ?_, hidx⟩
  rw [Tagged.tagged_of_instr hj, Tagged.usedLiteral_of_legal h]

/-! ## Words and instructions -/

/-- A word the decoder takes is the word of legal tags. -/
theorem exists_tagged_of_decode {w : Di32} {i : Instr} (h : decode w = .ok i) :
    ∃ t : Tagged, t.word = w ∧ t.wellFormed = true ∧ t.instr = some i := by
  unfold decode at h
  split at h
  case h_1 => cases h
  case h_2 f hf =>
  split at h
  case h_2 => cases h
  case h_1 x y hx hy =>
  dsimp only at h
  split at h
  case h_1 => cases h
  case h_2 hlegal =>
  split at h
  case h_2 => cases h
  case h_1 j hj =>
  cases h
  refine ⟨⟨f, x, y, kField w⟩, ?_, beq_iff_eq.2 hlegal, hj⟩
  rw [Tagged.word, Family.code_of_ofCode _ f hf, Selector.code_of_ofCode _ x hx, Selector.code_of_ofCode _ y hy,
    word_of_fields]

/-- R110: a word decodes to the instruction that encodes to it, and to no other. -/
theorem decode_eq_ok_iff {w : Di32} {i : Instr} : decode w = .ok i ↔ encode i = w := by
  constructor
  · intro h
    obtain ⟨t, rfl, ht, hi⟩ := exists_tagged_of_decode h
    rw [encode, Tagged.tagged_of_instr hi, Tagged.usedLiteral_of_legal (Tagged.literalFault_of_wellFormed ht)]
  · rintro rfl
    exact decode_word_of_wellFormed i.tagged_wellFormed i.instr_tagged

/-! ## The row of a form -/

/-- The bits of K that are zero in every word of a form with these slots (R106 to R108). -/
def literalMask (x y : Selector) : U16 :=
  if x = .abs ∨ y = .abs then 0
  else if x = .imm ∨ y = .imm then 0xFF00
  else 0xFFFF

/-- The upper half of a word: the codes of its family and slots (R100). -/
def formCode (f : Family) (x y : Selector) : U16 :=
  f.code ++ x.code ++ y.code

/-- The row of the words with this family, these slots and a legal literal (R109). -/
def formRow (f : Family) (x y : Selector) : OpcodeRow :=
  { mask := 0xFFFF#16 ++ literalMask x y, pattern := formCode f x y ++ 0#16 }

/-- The row of an instruction's words, whatever its literal. -/
def Instr.row (i : Instr) : OpcodeRow :=
  formRow i.tagged.family i.tagged.x i.tagged.y

/-- A word is its upper half and its literal. -/
theorem exists_halves (w : Di32) : ∃ hi lo : U16, hi ++ lo = w :=
  ⟨famField w ++ xField w ++ yField w, kField w, word_of_fields w⟩

/-- Two words in two parts are equal exactly when both parts are. -/
theorem bitVec_append_inj {m n : Nat} {a c : BitVec m} {b d : BitVec n} : a ++ b = c ++ d ↔ a = c ∧ b = d := by
  refine ⟨fun h => ⟨?_, ?_⟩, by rintro ⟨rfl, rfl⟩; rfl⟩
  · simpa only [BitVec.extractLsb'_append_eq_left] using congrArg (BitVec.extractLsb' n m) h
  · simpa only [BitVec.extractLsb'_append_eq_right] using congrArg (BitVec.extractLsb' 0 n) h

/-- The mask of bits 15 to 8 is zero on immediates alone (R106). -/
theorem and_0xFF00_eq_zero_iff (k : U16) : k &&& 0xFF00#16 = 0#16 ↔ k.toNat < 256 := by
  have hand : k &&& 0xFF00#16 = joinBytes (hiByte k) 0 := by
    calc k &&& 0xFF00#16
        = joinBytes (hiByte k) (loByte k) &&& joinBytes (BitVec.allOnes 8) 0 := by rw [joinBytes_hiByte_loByte]; rfl
      _ = joinBytes (hiByte k) 0 := by rw [joinBytes_and, BitVec.and_allOnes]; simp
  rw [hand, ← BitVec.toNat_inj, toNat_joinBytes, toNat_hiByte]
  simp

/-- A literal is legal exactly when its masked bits are zero. -/
theorem literalFault_eq_none_iff (f : Family) (x y : Selector) (k : U16) :
    (⟨f, x, y, k⟩ : Tagged).literalFault = none ↔ k &&& literalMask x y = 0#16 := by
  have hones : k &&& 0xFFFF#16 = k := BitVec.and_allOnes
  unfold Tagged.literalFault literalMask
  dsimp only
  split_ifs with _ _ hlt hzero
  · simp
  · simpa [and_0xFF00_eq_zero_iff] using hlt
  · simpa [and_0xFF00_eq_zero_iff] using hlt
  · simp [hzero]
  · simpa [hones] using hzero

/-- A row selects the words of its form with a legal literal, and no others. -/
theorem formRow_selects_iff {f : Family} {x y : Selector} {w : Di32} :
    (formRow f x y).selects w = true ↔
      ∃ k, (⟨f, x, y, k⟩ : Tagged).literalFault = none ∧ (⟨f, x, y, k⟩ : Tagged).word = w := by
  obtain ⟨hi, lo, rfl⟩ := exists_halves w
  have hmasked : (hi ++ lo) &&& (formRow f x y).mask = hi ++ (lo &&& literalMask x y) := by
    rw [formRow, BitVec.and_append, show 0xFFFF#16 = BitVec.allOnes 16 from rfl, BitVec.and_allOnes]
  have hpattern : hi ++ (lo &&& literalMask x y) = (formRow f x y).pattern ↔
      hi = formCode f x y ∧ lo &&& literalMask x y = 0#16 := bitVec_append_inj
  have hword (k : U16) : (⟨f, x, y, k⟩ : Tagged).word = hi ++ lo ↔ formCode f x y = hi ∧ k = lo := bitVec_append_inj
  simp only [OpcodeRow.selects, beq_iff_eq, hmasked, hpattern, hword, literalFault_eq_none_iff]
  constructor
  · rintro ⟨rfl, hlo⟩
    exact ⟨lo, hlo, rfl, rfl⟩
  · rintro ⟨k, hk, rfl, rfl⟩
    exact ⟨rfl, hk⟩

/-! ## The opcode table -/

/-- The table has the instructions' rows, in the order of the constructors. -/
theorem opcodeTable_getElem?_ctorIdx (i : Instr) : opcodeTable[i.ctorIdx]? = some i.row := by
  cases i <;> simp only [Instr.row, Instr.tagged, Instr.ctorIdx] <;> decide

/-- The table's words are words of the instructions, in the order of the constructors. -/
theorem opcodeTable_map_decode :
    opcodeTable.map (fun row => (decode row.pattern).toOption.map Instr.ctorIdx) = (List.range 189).map some := by
  rfl

theorem opcodeTable_getElem?_eq_some_iff {n : Nat} {row : OpcodeRow} :
    opcodeTable[n]? = some row ↔ ∃ i : Instr, i.ctorIdx = n ∧ i.row = row := by
  constructor
  · intro h
    have hn : n < 189 := (List.getElem?_eq_some_iff.1 h).1
    have hidx : (decode row.pattern).toOption.map Instr.ctorIdx = some n := by
      simpa [h, List.getElem?_range hn] using congrArg (·[n]?) opcodeTable_map_decode
    obtain ⟨i, -, rfl⟩ := Option.map_eq_some_iff.1 hidx
    exact ⟨i, rfl, Option.some.inj ((opcodeTable_getElem?_ctorIdx i).symm.trans h)⟩
  · rintro ⟨i, rfl, rfl⟩
    exact opcodeTable_getElem?_ctorIdx i

/-- An instruction's row selects the words that decode to its constructor. -/
theorem Instr.row_selects_iff {i : Instr} {w : Di32} :
    i.row.selects w = true ↔ ∃ j, decode w = .ok j ∧ j.ctorIdx = i.ctorIdx := by
  constructor
  · intro h
    obtain ⟨k, hlit, rfl⟩ := formRow_selects_iff.1 h
    obtain ⟨j, hj, hidx⟩ := i.exists_tagged_eq hlit
    exact ⟨j, decode_eq_ok_iff.2 (congrArg Tagged.word hj), hidx⟩
  · rintro ⟨j, hj, hidx⟩
    have hrow : j.row = i.row := by
      simpa [opcodeTable_getElem?_ctorIdx] using congrArg (opcodeTable[·]?) hidx
    rw [← hrow]
    exact formRow_selects_iff.2
      ⟨j.tagged.k, Tagged.literalFault_of_wellFormed j.tagged_wellFormed, decode_eq_ok_iff.1 hj⟩

end Sys2Proof

namespace Sys2Proof.Proofs

/-- Settles O1: the tags of an instruction are legal and select it, and its word is split into them again. -/
theorem decodeOfEncodeIsTheInstruction : Obligations.DecodeOfEncodeIsTheInstruction :=
  fun _ _ => decode_eq_ok_iff.2 rfl

/-- Settles O2: the fields of a word are the codes of its tags, and a legal literal has no unused bit. -/
theorem encodeOfDecodeIsTheWord : Obligations.EncodeOfDecodeIsTheWord :=
  fun _ _ => decode_eq_ok_iff.1

/-- Settles O3: the table's rows are those of the instructions, and each selects the words of its constructor. -/
theorem legalWordsAreTheOpcodeTable : Obligations.LegalWordsAreTheOpcodeTable := by
  intro w
  constructor
  · rintro ⟨i, hi⟩
    exact ⟨i.row, List.mem_of_getElem? (opcodeTable_getElem?_ctorIdx i), Instr.row_selects_iff.2 ⟨i, hi, rfl⟩⟩
  · rintro ⟨row, hrow, hsel⟩
    obtain ⟨n, hn⟩ := List.mem_iff_getElem?.1 hrow
    obtain ⟨i, -, rfl⟩ := opcodeTable_getElem?_eq_some_iff.1 hn
    obtain ⟨j, hj, -⟩ := Instr.row_selects_iff.1 hsel
    exact ⟨j, hj⟩

/-- Settles O4: a word decodes to one constructor, whose place in the table is that of the row selected. -/
theorem noWordSelectsTwoOpcodeRows : Obligations.NoWordSelectsTwoOpcodeRows := by
  intro w m n row row' hm hn hrow hrow'
  obtain ⟨i, rfl, rfl⟩ := opcodeTable_getElem?_eq_some_iff.1 hm
  obtain ⟨i', rfl, rfl⟩ := opcodeTable_getElem?_eq_some_iff.1 hn
  obtain ⟨j, hj, hidx⟩ := Instr.row_selects_iff.1 hrow
  obtain ⟨j', hj', hidx'⟩ := Instr.row_selects_iff.1 hrow'
  obtain rfl : j = j' := Except.ok.inj (hj.symm.trans hj')
  exact hidx.symm.trans hidx'

/-- Settles O5: the twelve forms encode to their words, which therefore decode to them. -/
theorem workedEncodings : Obligations.WorkedEncodings := by
  intro x hx
  have hencode : encode x.1 = x.2 := by
    revert x
    decide
  exact ⟨hencode, decode_eq_ok_iff.2 hencode⟩

end Sys2Proof.Proofs
end

section
/-! The words of forms with a literal (spec/30_encoding.md R100, R106, R108): the word of the form, and the literal added. -/

namespace Sys2Proof.Machine

/-! ## The bytes of an immediate's word -/

theorem hiByte_zext16 (n : U8) : hiByte (zext16 n) = 0 :=
  hiByte_joinBytes 0 n

theorem loByte_zext16 (n : U8) : loByte (zext16 n) = n :=
  loByte_joinBytes 0 n

theorem toNat_zext16 (n : U8) : (zext16 n).toNat = n.toNat :=
  (toNat_joinBytes 0 n).trans (by simp)

end Sys2Proof.Machine

namespace Sys2Proof

open Sys2Proof.Machine

/-! ## The literal of a word -/

/-- A word is the word of its family and slots, and its literal added (R100). -/
theorem Tagged.word_literal (f : Family) (x y : Selector) (k : U16) :
    (⟨f, x, y, k⟩ : Tagged).word = (⟨f, x, y, 0⟩ : Tagged).word + k.setWidth 32 := by
  have hword : (⟨f, x, y, k⟩ : Tagged).word.toNat < 2 ^ 32 := BitVec.isLt _
  have hk := k.isLt
  have hzero : (0 : U16).toNat = 0 := rfl
  apply BitVec.eq_of_toNat_eq
  simp only [Tagged.word, word_toNat, BitVec.toNat_add, BitVec.toNat_setWidth] at hword ⊢
  omega

/-- An immediate's K is the immediate (R106). -/
theorem Tagged.word_immediate (f : Family) (x y : Selector) (n : U8) :
    (⟨f, x, y, 0#8 ++ n⟩ : Tagged).word = (⟨f, x, y, 0⟩ : Tagged).word + n.setWidth 32 := by
  have hn : (0#8 ++ n : U16).setWidth 32 = n.setWidth 32 := by
    rw [← BitVec.toNat_inj, BitVec.toNat_setWidth, BitVec.toNat_setWidth]
    exact congrArg (· % 2 ^ 32) (toNat_zext16 n)
  rw [Tagged.word_literal, hn]

end Sys2Proof
end

section
/-! What the instructions of spec/40_loads.md do. All but one are a move, and a move has two kinds: to a register, or to
memory. Each is said once, for any source, from the state its shape completes in; the one load of a pair stands apart. -/

namespace Sys2Proof.Machine

open Sys2Proof.Claims

/-! ## The state a shape completes in -/

/-- A completed shape pulses `exec_done` after its accesses (spec/11_interfaces.md R53). -/
theorem Shape.completed_after (s : State) (k : Shape) : Completed (k.after s) (k.accesses s) := by
  rw [Completed, ← Shape.after_accesses, ← Shape.after_execDone s k]

theorem Shape.after_pc (s : State) (k : Shape) : (k.after s).pc = s.pc := by
  have hkept : k.after s = { k.after s with pc := s.pc } := k.after_withPc s s.pc
  rw [hkept]

theorem Shape.after_inputs (s : State) (k : Shape) : (k.after s).inputs = s.inputs := by
  cases k with
  | move d x => cases d <;> simp [Shape.after, Dst.put, State.recordAll]
  | alu op x => cases op <;> rfl
  | loadPair p n => simp [Shape.after, State.loadPair]
  | pushPair _ | pushAf | popAf => rfl
  | popPair p => simp [Shape.after, State.popped, State.poppedReads]
  | incReg r => simp [Shape.after, State.incReg]
  | incHL => simp [Shape.after, State.incHL]
  | add16 x => simp [Shape.after, State.add16]

/-- The frame of a completed shape is that of its registers and of its bytes: PC, the latch, the parameters and the host's list
are out of its reach (spec/10_state.md R41). -/
theorem Shape.frame_after {s : State} {k : Shape} {regs : List Reg} {stored : List Nat}
    (hregs : ∀ r, r ∉ regs → (k.after s).reg r = s.reg r)
    (hmem : ∀ a, a ∉ stored → byteAt (k.after s) a = byteAt s a) : Frame s (k.after s) regs stored := by
  obtain ⟨hcfg, hfault⟩ := Shape.after_keeps s k
  exact ⟨hregs, hmem, Shape.after_pc s k, hfault, hcfg, Shape.after_inputs s k⟩

theorem Shape.byteAt_after_of_not_stores (s : State) {k : Shape} (hk : k.stores = false) (a : Nat) :
    byteAt (k.after s) a = byteAt s a := by
  rw [byteAt, Shape.after_mem s hk, byteAt]

/-- An instruction whose first address is out of range takes MemOutOfRange there (spec/60_exceptions.md R261, R266). -/
theorem outOfRange_of_first_address {i : Instr} {k : Shape} {s : State} {a : U16} {rest : List U16}
    (hk : shapeOf i.tagged = some k) (haddrs : k.addrs s = a :: rest) (ha : s.cfg.memSize ≤ a.toNat) :
    OutOfRange (exec i s) s a (encode i) := by
  have hbad : k.badAddr s = some a := by simp [Shape.badAddr, haddrs, ha]
  exact exec_faults hk hbad

/-! ## Operands in range -/

theorem Src.valid_of_addr_eq_none {x : Src} {s : State} (hx : x.addr s = none) : x.Valid s := by
  simp [Src.Valid, hx]

theorem Src.valid_of_addr_eq_some {x : Src} {s : State} {a : U16} (hx : x.addr s = some a)
    (ha : a.toNat < s.cfg.memSize) : x.Valid s := by
  simpa [Src.Valid, hx] using ha

theorem Shape.badAddr_move_eq_none {s : State} {d : Dst} {x : Src} :
    (Shape.move d x).badAddr s = none ↔ x.Valid s ∧ d.Valid s := by
  simp [Shape.badAddr_eq_none, Shape.addrs, Src.Valid, Dst.Valid, or_imp, forall_and]

/-! ## A move to a register -/

theorem Shape.reg_after_move_reg_same (s : State) (r : Reg) (x : Src) :
    ((Shape.move (.reg r) x).after s).reg r = x.value s := by
  simp [Shape.after, Dst.put]

theorem Shape.frame_after_move_reg (s : State) (r : Reg) (x : Src) :
    Frame s ((Shape.move (.reg r) x).after s) [r] [] := by
  refine Shape.frame_after (fun q hq => ?_) fun a _ => Shape.byteAt_after_of_not_stores s rfl a
  have hqr : q ≠ r := by simpa using hq
  simp [Shape.after, Dst.put, hqr]

/-- A move to a register, its source in range: the register takes the source's old value (spec/40_loads.md R130). -/
theorem exec_move_reg {i : Instr} {r : Reg} {x : Src} {s : State} (hk : shapeOf i.tagged = some (.move (.reg r) x))
    (hx : x.Valid s) :
    ∃ t, exec i s = .next t ∧ t.reg r = x.value s ∧ t.f = s.f ∧ t.sp = s.sp ∧ Frame s t [r] [] ∧
      Completed t (x.reads s) := by
  have hok : (Shape.move (.reg r) x).badAddr s = none := Shape.badAddr_move_eq_none.2 ⟨hx, nofun⟩
  have haccesses : (Shape.move (.reg r) x).accesses s = x.reads s := List.append_nil _
  exact ⟨_, exec_completes hk hok, Shape.reg_after_move_reg_same s r x, Shape.after_f s rfl nofun, Shape.after_sp s rfl,
    Shape.frame_after_move_reg s r x, haccesses ▸ Shape.completed_after s _⟩

/-! ## A move to memory -/

section
variable {s : State} {d : Dst} {x : Src} {a : U16} (hd : d.addr s = some a)
include hd

/-- The store of a value to memory at an address (spec/20_memory.md R74). -/
theorem Dst.put_of_addr {t : State} (v : U8) (ht : d.addr t = d.addr s) :
    d.put v t = { t with mem := Memory.write t.mem a.toNat v }.record (.write a v) := by
  cases d with
  | reg r => cases hd
  | ind p | abs nn =>
    cases ht.trans hd
    rfl

theorem Shape.after_move_mem :
    (Shape.move d x).after s =
      { s with
        mem := Memory.write s.mem a.toNat (x.value s)
        out := { execDone := true, accesses := x.reads s ++ [.write a (x.value s)] } } := by
  rw [Shape.after, Dst.put_of_addr hd _ (by simp)]
  rfl

theorem Shape.frame_after_move_mem : Frame s ((Shape.move d x).after s) [] [a.toNat] := by
  rw [Shape.after_move_mem hd]
  refine ⟨fun r _ => by cases r <;> rfl, fun b hb => ?_, rfl, rfl, rfl, rfl⟩
  exact Memory.read_write_other _ _ (by simpa using hb)

/-- A move to memory, both operands in range: the byte takes the source's value (R130). -/
theorem exec_move_mem {i : Instr} (hk : shapeOf i.tagged = some (.move d x)) (hx : x.Valid s)
    (ha : a.toNat < s.cfg.memSize) :
    ∃ t, exec i s = .next t ∧ byteAt t a.toNat = x.value s ∧ t.f = s.f ∧ t.sp = s.sp ∧ Frame s t [] [a.toNat] ∧
      Completed t (x.reads s ++ [.write a (x.value s)]) := by
  have hok : (Shape.move d x).badAddr s = none :=
    Shape.badAddr_move_eq_none.2 ⟨hx, fun b hb => by rwa [← Option.some.inj (hd.symm.trans hb)]⟩
  refine ⟨_, exec_completes hk hok, ?_, Shape.after_f s rfl nofun, Shape.after_sp s rfl, Shape.frame_after_move_mem hd, ?_⟩
  · rw [Shape.after_move_mem hd]
    exact Memory.read_write_same ..
  · rw [Shape.after_move_mem hd]
    rfl

end

/-- A frame that leaves out one byte holds without the exception when that byte is what it was. -/
theorem frame_of_byteAt_eq {s t : State} {regs : List Reg} {a : Nat} (h : Frame s t regs [a])
    (ha : byteAt t a = byteAt s a) : Frame s t regs [] := by
  obtain ⟨hregs, hmem, hrest⟩ := h
  refine ⟨hregs, fun b _ => ?_, hrest⟩
  obtain rfl | hb := eq_or_ne b a
  · exact ha
  · exact hmem b (by simpa using hb)

/-! ## A load of a pair -/

theorem Shape.frame_after_loadPair (s : State) (p : Pair) (n : U8) :
    Frame s ((Shape.loadPair p n).after s) [pairHi p, pairLo p] [] := by
  refine Shape.frame_after (fun r hr => ?_) fun a _ => Shape.byteAt_after_of_not_stores s rfl a
  obtain ⟨hhi, hlo⟩ : r ≠ pairHi p ∧ r ≠ pairLo p := by simpa using hr
  simp [Shape.after, State.loadPair, State.reg_setPair_other _ _ hhi hlo]

end Sys2Proof.Machine

namespace Sys2Proof.Proofs

open Sys2Proof.Machine Sys2Proof.Claims

/-! ## LDN -/

/-- Settles O6: a move of the immediate to the register. -/
theorem ldnRegisterLoadsImmediate : Obligations.LdnRegisterLoadsImmediate := by
  intro r n s
  have hk : shapeOf (Instr.ldnReg r n).tagged = some (.move (.reg r) (.imm n)) := by simp [shapeOf]
  refine ⟨?_, exec_move_reg hk (Src.valid_of_addr_eq_none rfl)⟩
  rw [encode, Instr.tagged_ldnReg, Tagged.word_immediate]
  cases r <;> rfl

/-- Settles O7: the pair takes the immediate's word, whose high byte is zero. -/
theorem ldnPairLoadsZeroExtendedImmediate : Obligations.LdnPairLoadsZeroExtendedImmediate := by
  intro p n s
  have hk : shapeOf (Instr.ldnPair p n).tagged = some (.loadPair p n) := by simp [shapeOf]
  have hafter : (Shape.loadPair p n).after s = (s.quiet.setPair p (zext16 n)).complete := rfl
  refine ⟨?_, _, exec_completes hk rfl, ?_, ?_, ?_, Shape.after_f s rfl nofun, Shape.after_sp s rfl,
    Shape.frame_after_loadPair s p n, Shape.completed_after s _⟩
  · rw [encode, Instr.tagged_ldnPair, Tagged.word_immediate]
    cases p <;> rfl
  · rw [hafter, State.complete_reg, State.reg_setPair_hi, hiByte_zext16]
  · rw [hafter, State.complete_reg, State.reg_setPair_lo, loByte_zext16]
  · rw [hafter, State.complete_pair, State.pair_setPair_same, toNat_zext16]

/-! ## LDRR -/

/-- Settles O8: a move from register to register. -/
theorem ldrrCopiesRegisterToRegister : Obligations.LdrrCopiesRegisterToRegister := by
  intro target source s
  have hk : shapeOf (Instr.ldrrRegReg target source).tagged = some (.move (.reg target) (.reg source)) := by
    simp [shapeOf, srcOf, dstOf]
  refine ⟨?_, exec_move_reg hk (Src.valid_of_addr_eq_none rfl)⟩
  rw [encode, Instr.tagged_ldrrRegReg]
  cases target <;> cases source <;> rfl

/-- Settles O9: a move from the byte at HL to the register; the address is that of the old state. -/
theorem ldrrLoadsRegisterFromMemory : Obligations.LdrrLoadsRegisterFromMemory := by
  intro r s
  have hk : shapeOf (Instr.ldrrRegMem r).tagged = some (.move (.reg r) (.ind .HL)) := by simp [shapeOf, srcOf, dstOf]
  refine ⟨?_, fun ha => exec_move_reg hk (Src.valid_of_addr_eq_some rfl ha), outOfRange_of_first_address hk rfl⟩
  rw [encode, Instr.tagged_ldrrRegMem]
  cases r <;> rfl

/-- Settles O10: a move from the register to the byte at HL. -/
theorem ldrrStoresRegisterToMemory : Obligations.LdrrStoresRegisterToMemory := by
  intro r s
  have hk : shapeOf (Instr.ldrrMemReg r).tagged = some (.move (.ind .HL) (.reg r)) := by simp [shapeOf, srcOf, dstOf]
  refine ⟨?_, exec_move_mem rfl hk (Src.valid_of_addr_eq_none rfl), outOfRange_of_first_address hk rfl⟩
  rw [encode, Instr.tagged_ldrrMemReg]
  cases r <;> rfl

/-- Settles O11: a move from the byte at HL to itself, so that the byte stored is the one that stood there. -/
theorem ldrrRewritesMemoryByte : Obligations.LdrrRewritesMemoryByte := by
  intro s
  have hk : shapeOf Instr.ldrrMemHLFromMemHL.tagged = some (.move (.ind .HL) (.ind .HL)) := rfl
  refine ⟨rfl, fun ha => ?_, outOfRange_of_first_address hk rfl⟩
  obtain ⟨t, hexec, hbyte, hf, hsp, hframe, hdone⟩ := exec_move_mem rfl hk (Src.valid_of_addr_eq_some rfl ha) ha
  exact ⟨t, hexec, hf, hsp, frame_of_byteAt_eq hframe hbyte, hdone⟩

/-! ## LDA -/

/-- Settles O12: a move from the register to A. -/
theorem ldaLoadsAccumulatorFromRegister : Obligations.LdaLoadsAccumulatorFromRegister := by
  intro r s
  have hk : shapeOf (Instr.ldaReg r).tagged = some (.move (.reg .A) (.reg r)) := by simp [shapeOf, srcOf]
  refine ⟨?_, exec_move_reg hk (Src.valid_of_addr_eq_none rfl)⟩
  rw [encode, Instr.tagged_ldaReg]
  cases r <;> rfl

/-- Settles O13: a move from the byte at the pair to A. -/
theorem ldaLoadsAccumulatorThroughPair : Obligations.LdaLoadsAccumulatorThroughPair := by
  intro p s
  have hk : shapeOf (Instr.ldaInd p).tagged = some (.move (.reg .A) (.ind p)) := by simp [shapeOf, srcOf]
  refine ⟨?_, fun ha => exec_move_reg hk (Src.valid_of_addr_eq_some rfl ha), outOfRange_of_first_address hk rfl⟩
  rw [encode, Instr.tagged_ldaInd]
  cases p <;> rfl

/-- Settles O14: a move from the byte at the literal to A. -/
theorem ldaLoadsAccumulatorFromAbsoluteAddress : Obligations.LdaLoadsAccumulatorFromAbsoluteAddress := by
  intro nn s
  have hk : shapeOf (Instr.ldaFromAbs nn).tagged = some (.move (.reg .A) (.abs nn)) := rfl
  exact ⟨Tagged.word_literal .lda .none .abs nn, fun ha => exec_move_reg hk (Src.valid_of_addr_eq_some rfl ha),
    outOfRange_of_first_address hk rfl⟩

/-- Settles O15: a move of the immediate to A. -/
theorem ldaLoadsAccumulatorImmediate : Obligations.LdaLoadsAccumulatorImmediate := by
  intro n s
  have hk : shapeOf (Instr.ldaFromImm n).tagged = some (.move (.reg .A) (.imm n)) := by
    simp [Instr.tagged, shapeOf, srcOf]
  exact ⟨Tagged.word_immediate .lda .none .imm n, exec_move_reg hk (Src.valid_of_addr_eq_none rfl)⟩

/-! ## LDFA -/

/-- Settles O16: a move from A to the register. -/
theorem ldfaStoresAccumulatorToRegister : Obligations.LdfaStoresAccumulatorToRegister := by
  intro r s
  have hk : shapeOf (Instr.ldfaReg r).tagged = some (.move (.reg r) (.reg .A)) := by simp [shapeOf, dstOf]
  refine ⟨?_, exec_move_reg hk (Src.valid_of_addr_eq_none rfl)⟩
  rw [encode, Instr.tagged_ldfaReg]
  cases r <;> rfl

/-- Settles O17: a move from A to the byte at the pair. -/
theorem ldfaStoresAccumulatorThroughPair : Obligations.LdfaStoresAccumulatorThroughPair := by
  intro p s
  have hk : shapeOf (Instr.ldfaInd p).tagged = some (.move (.ind p) (.reg .A)) := by simp [shapeOf, dstOf]
  refine ⟨?_, exec_move_mem rfl hk (Src.valid_of_addr_eq_none rfl), outOfRange_of_first_address hk rfl⟩
  rw [encode, Instr.tagged_ldfaInd]
  cases p <;> rfl

/-- Settles O18: a move from A to the byte at the literal. -/
theorem ldfaStoresAccumulatorToAbsoluteAddress : Obligations.LdfaStoresAccumulatorToAbsoluteAddress := by
  intro nn s
  have hk : shapeOf (Instr.ldfaToAbs nn).tagged = some (.move (.abs nn) (.reg .A)) := rfl
  exact ⟨Tagged.word_literal .ldfa .abs .none nn, exec_move_mem rfl hk (Src.valid_of_addr_eq_none rfl),
    outOfRange_of_first_address hk rfl⟩

end Sys2Proof.Proofs
end

section
/-! What the instructions of spec/41_stack.md do. A push stores a word below SP and a pop takes the word above it: each is said
once, for any word pushed and for any way to write back the word popped. -/

namespace Sys2Proof.Machine

open Sys2Proof.Claims

/-! ## The two addresses of a stack access -/

section
variable {i : Instr} {k : Shape} {s : State} {a b : U16} (haddrs : k.addrs s = [a, b]) (ha : a.toNat < s.cfg.memSize)
include haddrs ha

theorem Shape.badAddr_eq_none_of_two (hb : b.toNat < s.cfg.memSize) : k.badAddr s = none := by
  simp [Shape.badAddr, haddrs, ha, hb]

/-- With the first address in range, the second is the one that faults (spec/60_exceptions.md R266). -/
theorem outOfRange_of_second_address (hk : shapeOf i.tagged = some k) (hb : s.cfg.memSize ≤ b.toNat) :
    OutOfRange (exec i s) s b (encode i) := by
  have hbad : k.badAddr s = some b := by simp [Shape.badAddr, haddrs, ha, hb]
  exact exec_faults hk hbad

end

/-! ## A push -/

/-- The two addresses of a push differ, also where SP wraps at 0 (spec/41_stack.md R171). -/
theorem sp_ne_sp_sub_one (sp : U16) : sp.toNat ≠ (sp - 1).toNat := by
  bv_omega

/-- A push leaves its high byte at the old SP: the second store does not reach it. -/
theorem byteAt_pushed_high (s : State) (v : U16) : byteAt (s.pushed v) s.sp.toNat = hiByte v :=
  (Memory.read_write_other _ _ (sp_ne_sp_sub_one s.sp)).trans (Memory.read_write_same ..)

theorem frame_pushed (s : State) (v : U16) : Frame s (s.pushed v) [] [s.sp.toNat, (s.sp - 1).toNat] := by
  refine ⟨fun r _ => by cases r <;> rfl, fun a ha => ?_, rfl, rfl, rfl, rfl⟩
  obtain ⟨hhi, hlo⟩ : a ≠ s.sp.toNat ∧ a ≠ (s.sp - 1).toNat := by simpa using ha
  exact (Memory.read_write_other _ _ hlo).trans (Memory.read_write_other _ _ hhi)

/-- An instruction that pushes the word of two bytes is the push of those bytes (R171). -/
theorem pushForm_of_after {i : Instr} {k : Shape} {s : State} {hi lo : U8} {word : Di32} (hk : shapeOf i.tagged = some k)
    (haddrs : k.addrs s = [s.sp, s.sp - 1]) (hafter : k.after s = s.pushed (joinBytes hi lo)) (hword : encode i = word) :
    PushForm s i word hi lo := by
  subst hword
  refine ⟨rfl, fun h0 h1 => ?_, outOfRange_of_first_address hk haddrs,
    fun h0 h1 => outOfRange_of_second_address haddrs h0 hk h1⟩
  have hexec : exec i s = .next (s.pushed (joinBytes hi lo)) :=
    hafter ▸ exec_completes hk (Shape.badAddr_eq_none_of_two haddrs h0 h1)
  refine ⟨_, hexec, rfl, rfl, ?_, ?_, frame_pushed s _, by simp [Completed, State.pushed]⟩
  · rw [byteAt_pushed_high, hiByte_joinBytes]
  · rw [byteAt_pushed_low, loByte_joinBytes]

/-! ## A pop -/

theorem hiByte_stackTop (s : State) : hiByte s.stackTop = byteAt s (s.sp + 2).toNat :=
  hiByte_joinBytes ..

theorem loByte_stackTop (s : State) : loByte s.stackTop = byteAt s (s.sp + 1).toNat :=
  loByte_joinBytes ..

@[simp] theorem State.poppedReads_reg (s : State) (r : Reg) : s.poppedReads.reg r = s.reg r := by
  cases r <;> rfl

/-- A pop leaves in the registers what its word written back leaves there. -/
@[simp] theorem State.popped_reg (s : State) (put : State → U16 → State) (r : Reg) :
    (s.popped put).reg r = (put s.poppedReads s.stackTop).reg r := by
  cases r <;> rfl

theorem State.popped_pair (s : State) (put : State → U16 → State) (p : Pair) :
    (s.popped put).pair p = (put s.poppedReads s.stackTop).pair p := by
  simp [State.pair]

/-- An instruction that makes the two reads of a pop is the pop whose effect its completed state shows (spec/41_stack.md R173,
R174). -/
theorem popForm_of_after {i : Instr} {k : Shape} {s : State} {word : Di32} {effect : U8 → U8 → State → Prop}
    (hk : shapeOf i.tagged = some k) (haddrs : k.addrs s = [s.sp + 1, s.sp + 2])
    (haccesses : k.accesses s = s.poppedReads.out.accesses) (hsp : (k.after s).sp = s.sp + 2) (hword : encode i = word)
    (heffect : effect (loByte s.stackTop) (hiByte s.stackTop) (k.after s)) : PopForm s i word effect := by
  subst hword
  rw [loByte_stackTop, hiByte_stackTop] at heffect
  have hdone : Completed (k.after s) s.poppedReads.out.accesses := haccesses ▸ Shape.completed_after s k
  exact ⟨rfl, fun h0 h1 => ⟨_, exec_completes hk (Shape.badAddr_eq_none_of_two haddrs h0 h1), hsp, heffect, hdone⟩,
    outOfRange_of_first_address hk haddrs, fun h0 h1 => outOfRange_of_second_address haddrs h0 hk h1⟩

theorem Shape.frame_after_popPair (s : State) (p : Pair) :
    Frame s ((Shape.popPair p).after s) [pairHi p, pairLo p] [] := by
  refine Shape.frame_after (fun r hr => ?_) fun a _ => Shape.byteAt_after_of_not_stores s rfl a
  obtain ⟨hhi, hlo⟩ : r ≠ pairHi p ∧ r ≠ pairLo p := by simpa using hr
  simp [Shape.after, State.reg_setPair_other _ _ hhi hlo]

theorem State.reg_setAf_other (s : State) (v : U16) {r : Reg} (hr : r ≠ .A) : (s.setAf v).reg r = s.reg r := by
  cases r with
  | A => exact absurd rfl hr
  | _ => rfl

theorem Shape.frame_after_popAf (s : State) : Frame s (Shape.popAf.after s) [.A] [] := by
  refine Shape.frame_after (fun r hr => ?_) fun a _ => Shape.byteAt_after_of_not_stores s rfl a
  have hA : r ≠ .A := by simpa using hr
  simp [Shape.after, State.reg_setAf_other _ _ hA]

/-- `FLow` under `clear` takes the low nibble off (spec/10_state.md R33). -/
theorem toNat_and_0xF0 : ∀ b : U8, (b &&& 0xF0#8).toNat = b.toNat - b.toNat % 16 := by
  decide

/-! ## A push and a later pop -/

/-- A push with both addresses in range leaves its word. -/
theorem eq_pushed_of_exec {i : Instr} {k : Shape} {s t : State} {v : U16} (hk : shapeOf i.tagged = some k)
    (haddrs : k.addrs s = [s.sp, s.sp - 1]) (hafter : k.after s = s.pushed v) (h0 : s.sp.toNat < s.cfg.memSize)
    (h1 : (s.sp - 1).toNat < s.cfg.memSize) (h : exec i s = .next t) : t = s.pushed v := by
  have hexec := exec_completes hk (Shape.badAddr_eq_none_of_two haddrs h0 h1)
  rw [← hafter]
  exact Host.Outcome.next.inj (h.symm.trans hexec)

/-- `u` still has what the push of `v` in `s` left: its SP, its two bytes and the parameters (spec/41_stack.md R175). -/
structure KeepsPush (s u : State) (v : U16) : Prop where
  cfg : u.cfg = s.cfg
  sp : u.sp = s.sp - 2
  hi : byteAt u s.sp.toNat = hiByte v
  lo : byteAt u (s.sp - 1).toNat = loByte v

section
variable {s t u : State} {v : U16}

theorem keepsPush_of_eq_pushed (ht : t = s.pushed v) (hcfg : u.cfg = s.cfg) (hsp : u.sp = t.sp)
    (hhi : byteAt u s.sp.toNat = byteAt t s.sp.toNat) (hlo : byteAt u (s.sp - 1).toNat = byteAt t (s.sp - 1).toNat) :
    KeepsPush s u v := by
  subst ht
  exact ⟨hcfg, hsp, hhi.trans (byteAt_pushed_high s v), hlo.trans (byteAt_pushed_low s v)⟩

theorem KeepsPush.sp_add_one (h : KeepsPush s u v) : u.sp + 1 = s.sp - 1 := by
  rw [h.sp]
  bv_omega

theorem KeepsPush.sp_add_two (h : KeepsPush s u v) : u.sp + 2 = s.sp := by
  rw [h.sp, BitVec.sub_add_cancel]

/-- The word a pop takes is the word pushed. -/
theorem KeepsPush.stackTop (h : KeepsPush s u v) : u.stackTop = v := by
  rw [← joinBytes_hiByte_loByte u.stackTop, hiByte_stackTop, loByte_stackTop, h.sp_add_one, h.sp_add_two, h.hi, h.lo,
    joinBytes_hiByte_loByte]

/-- A pop finds both its addresses in range where the push did. -/
theorem KeepsPush.badAddr (h : KeepsPush s u v) {k : Shape} (haddrs : k.addrs u = [u.sp + 1, u.sp + 2])
    (h0 : s.sp.toNat < s.cfg.memSize) (h1 : (s.sp - 1).toNat < s.cfg.memSize) : k.badAddr u = none := by
  rw [← h.cfg] at h0 h1
  rw [h.sp_add_one, h.sp_add_two] at haddrs
  exact Shape.badAddr_eq_none_of_two haddrs h1 h0

end

end Sys2Proof.Machine

namespace Sys2Proof.Proofs

open Sys2Proof.Machine Sys2Proof.Claims

/-- Settles O19: all four push a word, the pair's or AF's, whose bytes are the two registers'. -/
theorem pushStoresPairBelowStackPointer : Obligations.PushStoresPairBelowStackPointer := by
  intro s
  refine ⟨fun p => ?_, ?_⟩
  · have hk : shapeOf (Instr.pushPair p).tagged = some (.pushPair p) := by simp [shapeOf]
    have hword : encode (.pushPair p) = 0x14000000#32 + pairNumber p * 0x10000#32 := by cases p <;> rfl
    exact pushForm_of_after hk rfl rfl hword
  · exact pushForm_of_after (k := .pushAf) rfl rfl rfl rfl

/-- Settles O20: the pop writes the word at the top of the stack to the pair. -/
theorem popLoadsPairAboveStackPointer : Obligations.PopLoadsPairAboveStackPointer := by
  intro s p
  have hk : shapeOf (Instr.popPair p).tagged = some (.popPair p) := by simp [shapeOf]
  have hword : encode (.popPair p) = 0x18000000#32 + pairNumber p * 0x200000#32 := by cases p <;> rfl
  refine popForm_of_after hk rfl rfl rfl hword
    ⟨?_, ?_, Shape.after_f s rfl nofun, Shape.frame_after_popPair s p⟩
  · rw [Shape.after, State.popped_reg, State.reg_setPair_hi]
  · rw [Shape.after, State.popped_reg, State.reg_setPair_lo]

/-- Settles O21: the pop writes the word at the top of the stack to AF, its low byte through `FLow`. -/
theorem popAfLoadsAccumulatorAndFlags : Obligations.PopAfLoadsAccumulatorAndFlags := by
  intro s
  have hf : (Shape.popAf.after s).f = fLow s.cfg.fLow (loByte s.stackTop) := rfl
  refine popForm_of_after rfl rfl rfl rfl rfl ⟨rfl, fun hretain => ?_, fun hclear => ?_, Shape.frame_after_popAf s⟩
  · rw [hf, hretain, fLow]
  · rw [hf, hclear, fLow, toNat_and_0xF0]

/-- Settles O22: the pop finds the word pushed at the top of the stack, and writes it to its pair or to AF. -/
theorem pushThenPopRestores : Obligations.PushThenPopRestores := by
  intro s t u h0 h1 hcfg hsp hhi hlo
  refine ⟨fun p q hpush => ?_, fun hpush => ?_⟩
  · have hkp : shapeOf (Instr.pushPair p).tagged = some (.pushPair p) := by simp [shapeOf]
    have hkq : shapeOf (Instr.popPair q).tagged = some (.popPair q) := by simp [shapeOf]
    have hu : KeepsPush s u (s.pair p) :=
      keepsPush_of_eq_pushed (eq_pushed_of_exec hkp rfl rfl h0 h1 hpush) hcfg hsp hhi hlo
    refine ⟨_, exec_completes hkq (hu.badAddr rfl h0 h1), ?_, hu.sp_add_two⟩
    rw [Shape.after, State.popped_pair, State.pair_setPair_same, hu.stackTop]
  · have hu : KeepsPush s u s.af :=
      keepsPush_of_eq_pushed (eq_pushed_of_exec rfl rfl rfl h0 h1 hpush) hcfg hsp hhi hlo
    have haf : (Shape.popAf.after u).af = (u.poppedReads.setAf s.af).af := by rw [← hu.stackTop]; rfl
    obtain ⟨_, hmask, hretain, _⟩ := viewsReadBackWhatWasWritten u.poppedReads s.af
    exact ⟨_, exec_completes rfl (hu.badAddr rfl h0 h1), hu.sp_add_two, haf ▸ hmask,
      fun hpolicy => haf.trans (hretain (hcfg ▸ hpolicy))⟩

end Sys2Proof.Proofs
end

section
/-! What ADD, ADC, SUB, SBC and CP do (spec/42_alu8_arith.md). `Add8` and `Sub8` are said once, by what they give; the three
operand forms of a family are said once, for any of the eight families that work on A and one source (R180, R230). -/

namespace Sys2Proof.Machine

open Sys2Proof.Claims

/-! ## The four flags -/

/-- The four flags in the model's own accessors (spec/10_state.md R29). -/
theorem isFlags_iff {f : U8} {z n h c : Prop} :
    IsFlags f z n h c ↔
      (flagZ f = true ↔ z) ∧ (flagN f = true ↔ n) ∧ (flagH f = true ↔ h) ∧ (flagC f = true ↔ c) ∧ f.toNat % 16 = 0 :=
  Iff.rfl

@[simp] theorem flagZ_flags : ∀ z n h c : Bool, flagZ (flags z n h c) = z := by decide

@[simp] theorem flagN_flags : ∀ z n h c : Bool, flagN (flags z n h c) = n := by decide

@[simp] theorem flagH_flags : ∀ z n h c : Bool, flagH (flags z n h c) = h := by decide

@[simp] theorem flagC_flags : ∀ z n h c : Bool, flagC (flags z n h c) = c := by decide

/-- `flags(z, n, h, c)` holds the four flags it is made of, and no other bit (spec/00_scope.md R9). -/
@[simp] theorem isFlags_flags {z n h c : Bool} {Z N H C : Prop} :
    IsFlags (flags z n h c) Z N H C ↔ (z = true ↔ Z) ∧ (n = true ↔ N) ∧ (h = true ↔ H) ∧ (c = true ↔ C) := by
  simp [isFlags_iff, flags_mod_16]

/-! ## Add8 and Sub8 -/

/-- `Add8` is the sum on unbounded naturals, with its two carries and the test for zero (R11). -/
theorem add8_gives (a v : U8) (cin : Bool) : AddGives a v cin (add8 a v cin).1 (add8 a v cin).2 := by
  refine ⟨BitVec.toNat_ofNat .., isFlags_flags.2 ⟨?_, by simp, decide_eq_true_iff, decide_eq_true_iff⟩⟩
  rw [decide_eq_true_iff, ← BitVec.toNat_inj]
  rfl

/-- `Sub8` is the difference on unbounded integers, with its two borrows and the test for zero (R11). -/
theorem sub8_gives (a v : U8) (bin : Bool) : SubGives a v bin (sub8 a v bin).1 (sub8 a v bin).2 := by
  refine ⟨?_, isFlags_flags.2 ⟨?_, by simp, decide_eq_true_iff, decide_eq_true_iff⟩⟩
  · rw [sub8, BitVec.toNat_ofInt]
    exact Int.toNat_of_nonneg (Int.emod_nonneg _ (by decide))
  · rw [decide_eq_true_iff, ← BitVec.toNat_inj]
    rfl

/-- Without carry-in the operands of `Add8` can be exchanged (spec/42_alu8_arith.md R205). -/
theorem add8_comm (a v : U8) : add8 a v false = add8 v a false := by
  simp only [add8, Nat.add_comm v.toNat, Nat.add_comm (lowNibble v)]

theorem toNat_255_sub (v : U8) : (255 - v).toNat = 255 - v.toNat := by
  bv_omega

/-- `Sub8` is `Add8` of the one's complement, with both carries inverted (R205). -/
theorem sub8_eq_add8_complement (a v : U8) (b : Bool) :
    (sub8 a v b).1 = (add8 a (255 - v) (!b)).1 ∧ flagC (sub8 a v b).2 = !flagC (add8 a (255 - v) (!b)).2 ∧
      flagH (sub8 a v b).2 = !flagH (add8 a (255 - v) (!b)).2 := by
  obtain ⟨hdiff, hsub⟩ := sub8_gives a v b
  obtain ⟨hsum, hadd⟩ := add8_gives a (255 - v) (!b)
  obtain ⟨-, -, hborrowH, hborrowC, -⟩ := isFlags_iff.1 hsub
  obtain ⟨-, -, hcarryH, hcarryC, -⟩ := isFlags_iff.1 hadd
  have hb : (!b).toNat = 1 - b.toNat := by cases b <;> rfl
  have hb1 := b.toNat_le
  rw [toNat_255_sub, hb] at hsum hcarryH hcarryC
  refine ⟨BitVec.eq_of_toNat_eq (by omega), ?_, ?_⟩
  · rw [Bool.eq_iff_iff, Bool.not_eq_true', ← Bool.not_eq_true, hborrowC, hcarryC]
    omega
  · rw [Bool.eq_iff_iff, Bool.not_eq_true', ← Bool.not_eq_true, hborrowH, hcarryH]
    omega

/-- `Sub8` is zero with a borrow for 0 - 255 - 1 alone (R205). -/
theorem sub8_zero_with_borrow_iff (a v : U8) (b : Bool) :
    (flagZ (sub8 a v b).2 = true ∧ flagC (sub8 a v b).2 = true) ↔ a = 0 ∧ v = 255 ∧ b = true := by
  obtain ⟨hdiff, hflags⟩ := sub8_gives a v b
  obtain ⟨hZ, -, -, hC, -⟩ := isFlags_iff.1 hflags
  have hb := b.toNat_le
  rw [hZ, hC, ← Bool.toNat_eq_one]
  bv_omega

/-- `Add8` is zero without a carry for two zeros and no carry-in alone (R205). -/
theorem add8_zero_without_carry {a v : U8} {cin : Bool} (hz : flagZ (add8 a v cin).2 = true)
    (hc : flagC (add8 a v cin).2 = false) : a = 0 ∧ v = 0 ∧ cin = false := by
  obtain ⟨hsum, hflags⟩ := add8_gives a v cin
  obtain ⟨hZ, -, -, hC, -⟩ := isFlags_iff.1 hflags
  rw [hZ] at hz
  rw [← Bool.not_eq_true, hC] at hc
  have hcin : cin.toNat = 0 := by omega
  refine ⟨?_, ?_, Bool.toNat_eq_zero.1 hcin⟩ <;> bv_omega

/-! ## A family and its three operand forms -/

/-- The family tag of an operation. -/
def AluOp.family : AluOp → Family
  | .add => .add
  | .adc => .adc
  | .sub => .sub
  | .sbc => .sbc
  | .cp => .cp
  | .and => .and
  | .or => .or
  | .xor => .xor

/-- The word of a family with no operand (spec/30_encoding.md R100). -/
def AluOp.word (op : AluOp) : Di32 :=
  (⟨op.family, .none, .none, 0⟩ : Tagged).word

/-- The instructions of a family by operand form, as their tags say (spec/42_alu8_arith.md R180). -/
structure AluOp.Forms (op : AluOp) (reg : Reg → Instr) (mem : Instr) (imm : U8 → Instr) : Prop where
  tagged_reg : ∀ r, (reg r).tagged = ⟨op.family, .none, .reg r, 0⟩
  tagged_mem : mem.tagged = ⟨op.family, .none, .ind .HL, 0⟩
  tagged_imm : ∀ n, (imm n).tagged = ⟨op.family, .none, .imm, 0#8 ++ n⟩

theorem shapeOf_of_family {t : Tagged} {op : AluOp} (h : t.family = op.family) :
    shapeOf t = (srcOf t.k t.y).map (.alu op) := by
  unfold shapeOf
  rw [h]
  cases op <;> rfl

theorem AluOp.word_reg (op : AluOp) (r : Reg) :
    (⟨op.family, .none, .reg r, 0⟩ : Tagged).word = op.word + regNumber r * 0x10000#32 := by
  cases op <;> cases r <;> rfl

theorem AluOp.word_mem (op : AluOp) : (⟨op.family, .none, .ind .HL, 0⟩ : Tagged).word = op.word + 0x80000#32 := by
  cases op <;> rfl

theorem AluOp.word_imm (op : AluOp) (n : U8) :
    (⟨op.family, .none, .imm, 0#8 ++ n⟩ : Tagged).word = op.word + 0xC0000#32 + n.setWidth 32 := by
  rw [Tagged.word_immediate]
  cases op <;> rfl

/-! ## What an operation leaves -/

/-- What a completed operation leaves for the operand value `v`: its effect on A and F, and all else as it was. -/
structure AluOp.Leaves (op : AluOp) (s : State) (v : U8) (t : State) : Prop where
  a : t.a = (op.effect s v).a
  f : t.f = (op.effect s v).f
  sp : t.sp = s.sp
  frame : Frame s t [.A] []

theorem Shape.after_alu_leaves (s : State) (op : AluOp) (x : Src) :
    op.Leaves s (x.value s) ((Shape.alu op x).after s) where
  a := by cases op <;> rfl
  f := by cases op <;> rfl
  sp := Shape.after_sp s rfl
  frame := by
    refine Shape.frame_after (fun r hr => ?_) fun a _ => Shape.byteAt_after_of_not_stores s rfl a
    cases r with
    | A => simp at hr
    | _ => cases op <;> rfl

/-- A frame that leaves out one register holds without the exception when that register is what it was. -/
theorem frame_of_reg_eq {s t : State} {r : Reg} {stored : List Nat} (h : Frame s t [r] stored)
    (hr : t.reg r = s.reg r) : Frame s t [] stored := by
  obtain ⟨hregs, hrest⟩ := h
  refine ⟨fun q _ => ?_, hrest⟩
  obtain rfl | hq := eq_or_ne q r
  · exact hr
  · exact hregs q (by simpa using hq)

section
variable {op : AluOp} {s : State} {effect : U8 → State → Prop} (heffect : ∀ v t, op.Leaves s v t → effect v t)
include heffect

/-- An operation whose source is in range completes after reading it. -/
theorem exec_alu {i : Instr} {x : Src} (hk : shapeOf i.tagged = some (.alu op x)) (hx : x.Valid s) :
    ∃ t, exec i s = .next t ∧ effect (x.value s) t ∧ Completed t (x.reads s) := by
  have hok : (Shape.alu op x).badAddr s = none :=
    Shape.badAddr_eq_none.2 fun a ha => hx a (by simpa [Shape.addrs] using ha)
  exact ⟨_, exec_completes hk hok, heffect _ _ (Shape.after_alu_leaves s op x), Shape.completed_after s _⟩

/-- The three operand forms of a family, from what its operation leaves for an operand value (R180, R230). -/
theorem AluOp.Forms.aluForms {reg : Reg → Instr} {mem : Instr} {imm : U8 → Instr} (h : op.Forms reg mem imm) :
    AluForms s reg mem imm op.word effect := by
  have hreg (r : Reg) : shapeOf (reg r).tagged = some (.alu op (.reg r)) := by
    rw [h.tagged_reg, shapeOf_of_family (op := op) rfl, srcOf, Option.map_some]
  have hmem : shapeOf mem.tagged = some (.alu op (.ind .HL)) := by
    rw [h.tagged_mem, shapeOf_of_family (op := op) rfl, srcOf, Option.map_some]
  have himm (n : U8) : shapeOf (imm n).tagged = some (.alu op (.imm n)) := by
    rw [h.tagged_imm, shapeOf_of_family (op := op) rfl, srcOf, Option.map_some, loByte_immediate]
  refine ⟨fun r => ⟨?_, exec_alu heffect (hreg r) (Src.valid_of_addr_eq_none rfl)⟩,
    ⟨?_, fun ha => exec_alu heffect hmem (Src.valid_of_addr_eq_some rfl ha), outOfRange_of_first_address hmem rfl⟩,
    fun n => ⟨?_, exec_alu heffect (himm n) (Src.valid_of_addr_eq_none rfl)⟩⟩
  · rw [encode, h.tagged_reg, op.word_reg]
  · rw [encode, h.tagged_mem, op.word_mem]
  · rw [encode, h.tagged_imm, op.word_imm]

end

/-! ## A completed instruction of a family, by its tags -/

theorem loByte_eq_setWidth (k : U16) : loByte k = k.setWidth 8 := by
  apply BitVec.eq_of_toNat_eq
  rw [toNat_loByte, BitVec.toNat_setWidth]

/-- The source of a slot has the value the slot names (spec/30_encoding.md R105). -/
theorem value_of_srcOf {t : Tagged} {x : Src} (hx : srcOf t.k t.y = some x) (s : State) : x.value s = sourceValue t s := by
  unfold sourceValue
  cases hy : t.y with
  | reg _ | ind _ | abs =>
    rw [hy] at hx
    cases hx
    rfl
  | imm =>
    rw [hy] at hx
    cases hx
    exact loByte_eq_setWidth t.k
  | none | pair _ | sp | af =>
    rw [hy] at hx
    cases hx

/-- A completed instruction of a family leaves what its operation does for the value its tags name. -/
theorem leaves_of_family {i : Instr} {op : AluOp} {s t : State} (hfamily : i.tagged.family = op.family)
    (h : exec i s = .next t) (hdone : t.out.execDone = true) : op.Leaves s (sourceValue i.tagged s) t := by
  obtain ⟨k, hk⟩ := exists_shapeOf i
  obtain ⟨x, hx, rfl⟩ := Option.map_eq_some_iff.1 ((shapeOf_of_family hfamily).symm.trans hk)
  obtain ⟨_, rfl⟩ := exec_cases_of_execDone hk h hdone
  exact value_of_srcOf hx s ▸ Shape.after_alu_leaves s op x

section
variable {i : Instr} {s t : State} (h : exec i s = .next t) (hdone : t.out.execDone = true)
include h hdone

/-- A completed ADD or ADC leaves the flags of `Add8`, the carry-in of ADC being the old F.C (R181, R187). -/
theorem exists_f_eq_add8 (hfamily : i.tagged.family = .add ∨ i.tagged.family = .adc) :
    ∃ cin, t.f = (add8 s.a (sourceValue i.tagged s) cin).2 ∧ (i.tagged.family = .adc → cin = flagC s.f) := by
  obtain hadd | hadc := hfamily
  · exact ⟨false, (leaves_of_family (op := .add) hadd h hdone).f, fun hadc => nomatch hadd.symm.trans hadc⟩
  · exact ⟨flagC s.f, (leaves_of_family (op := .adc) hadc h hdone).f, fun _ => rfl⟩

/-- A completed SUB, SBC or CP leaves the flags of `Sub8`, with a borrow-in in SBC alone, the old F.C (R191, R195, R199). -/
theorem exists_f_eq_sub8
    (hfamily : i.tagged.family = .sub ∨ i.tagged.family = .sbc ∨ i.tagged.family = .cp) :
    ∃ bin, t.f = (sub8 s.a (sourceValue i.tagged s) bin).2 ∧
      (bin = true → i.tagged.family = .sbc ∧ flagC s.f = true) := by
  obtain hsub | hsbc | hcp := hfamily
  · exact ⟨false, (leaves_of_family (op := .sub) hsub h hdone).f, nofun⟩
  · exact ⟨flagC s.f, (leaves_of_family (op := .sbc) hsbc h hdone).f, fun hbin => ⟨hsbc, hbin⟩⟩
  · exact ⟨false, (leaves_of_family (op := .cp) hcp h hdone).f, nofun⟩

end

end Sys2Proof.Machine

namespace Sys2Proof.Proofs

open Sys2Proof.Machine Sys2Proof.Claims

/-- Settles O23: `Add8` without carry-in. -/
theorem addAddsOperandToAccumulator : Obligations.AddAddsOperandToAccumulator := by
  intro s
  have hforms : AluOp.add.Forms Instr.addReg .addMemHL Instr.addImm := ⟨Instr.tagged_addReg, rfl, fun _ => rfl⟩
  exact hforms.aluForms fun v t ht => ⟨ht.a ▸ ht.f ▸ add8_gives s.a v false, ht.sp, ht.frame⟩

/-- Settles O24: `Add8` with the old F.C as carry-in. -/
theorem adcAddsOperandAndCarryToAccumulator : Obligations.AdcAddsOperandAndCarryToAccumulator := by
  intro s
  have hforms : AluOp.adc.Forms Instr.adcReg .adcMemHL Instr.adcImm := ⟨Instr.tagged_adcReg, rfl, fun _ => rfl⟩
  exact hforms.aluForms fun v t ht => ⟨ht.a ▸ ht.f ▸ add8_gives s.a v (flagC s.f), ht.sp, ht.frame⟩

/-- Settles O25: `Sub8` without borrow-in. -/
theorem subSubtractsOperandFromAccumulator : Obligations.SubSubtractsOperandFromAccumulator := by
  intro s
  have hforms : AluOp.sub.Forms Instr.subReg .subMemHL Instr.subImm := ⟨Instr.tagged_subReg, rfl, fun _ => rfl⟩
  exact hforms.aluForms fun v t ht => ⟨ht.a ▸ ht.f ▸ sub8_gives s.a v false, ht.sp, ht.frame⟩

/-- Settles O26: `Sub8` with the old F.C as borrow-in. -/
theorem sbcSubtractsOperandAndCarryFromAccumulator : Obligations.SbcSubtractsOperandAndCarryFromAccumulator := by
  intro s
  have hforms : AluOp.sbc.Forms Instr.sbcReg .sbcMemHL Instr.sbcImm := ⟨Instr.tagged_sbcReg, rfl, fun _ => rfl⟩
  exact hforms.aluForms fun v t ht => ⟨ht.a ▸ ht.f ▸ sub8_gives s.a v (flagC s.f), ht.sp, ht.frame⟩

/-- Settles O27: the flags of `Sub8` without borrow-in, its result dropped; A, the one register outside the frame, is kept. -/
theorem cpSetsSubFlagsAndKeepsAccumulator : Obligations.CpSetsSubFlagsAndKeepsAccumulator := by
  intro s
  have hforms : AluOp.cp.Forms Instr.cpReg .cpMemHL Instr.cpImm := ⟨Instr.tagged_cpReg, rfl, fun _ => rfl⟩
  exact hforms.aluForms fun v t ht =>
    ⟨⟨(sub8 s.a v false).1, ht.f ▸ sub8_gives s.a v false⟩, ht.sp, frame_of_reg_eq ht.frame ht.a⟩

/-- Settles O31: the first three laws are those of `Add8` and `Sub8`; a completed instruction of the five families leaves in
F the flags of one of the two, for the value its tags name. -/
theorem arithmeticLaws : Obligations.ArithmeticLaws := by
  refine ⟨add8_comm, sub8_eq_add8_complement, sub8_zero_with_borrow_iff, fun i s t h hdone =>
    ⟨fun hfamily => ?_, fun hfamily => ?_⟩⟩
  · obtain ⟨cin, hf, hcin⟩ := exists_f_eq_add8 h hdone hfamily
    rw [hf]
    refine ⟨flags_mod_16 .., flagN_flags .., fun hz hc => ?_⟩
    obtain ⟨ha, hv, hzero⟩ := add8_zero_without_carry hz hc
    exact ⟨ha, hv, fun hadc => (hcin hadc).symm.trans hzero⟩
  · obtain ⟨bin, hf, hbin⟩ := exists_f_eq_sub8 h hdone hfamily
    rw [hf]
    refine ⟨flags_mod_16 .., flagN_flags .., fun hz hc => ?_⟩
    obtain ⟨ha, hv, hone⟩ := (sub8_zero_with_borrow_iff ..).1 ⟨hz, hc⟩
    obtain ⟨hsbc, hcarry⟩ := hbin hone
    exact ⟨hsbc, ha, hv, hcarry⟩

end Sys2Proof.Proofs
end

section
/-! What the instructions of spec/43_inc.md do. INC adds one to a register or to HL and replaces F: the increment is said once
for each width, and what stands in the state an INC completes in once for each of its two shapes. -/

namespace Sys2Proof.Machine

open Sys2Proof.Claims

/-! ## The increment -/

/-- The flags of an increment: Z and H by their two tests, N and C written zero (spec/43_inc.md R220). -/
theorem isFlags_of_tests (z h : Prop) [Decidable z] [Decidable h] :
    IsFlags (flags (decide z) false (decide h) false) z False h False :=
  isFlags_flags.2 ⟨decide_eq_true_iff, Bool.false_eq_true.to_iff, decide_eq_true_iff, Bool.false_eq_true.to_iff⟩

theorem toNat_inc8 (old : U8) : (inc8 old).1.toNat = (old.toNat + 1) % 256 :=
  BitVec.toNat_ofNat ..

/-- INC of a byte tests the new byte for zero and the old low nibble for 15 (R221). -/
theorem isFlags_inc8 (old : U8) : IsFlags (inc8 old).2 ((inc8 old).1 = 0) False (old.toNat % 16 = 15) False :=
  isFlags_of_tests _ _

theorem toNat_inc16 (old : U16) : (inc16 old).1.toNat = (old.toNat + 1) % 65536 :=
  BitVec.toNat_ofNat ..

/-- INC of HL tests the new word for zero, all sixteen bits, and the old low nibble for 15 (R222). -/
theorem isFlags_inc16 (old : U16) : IsFlags (inc16 old).2 ((inc16 old).1 = 0) False (old.toNat % 16 = 15) False :=
  isFlags_of_tests _ _

/-! ## INC of a register -/

theorem Shape.f_after_incReg (s : State) (r : Reg) : ((Shape.incReg r).after s).f = (inc8 (s.reg r)).2 := by
  simp [Shape.after, State.incReg]

/-- INC leaves in the registers what the write of the incremented byte leaves there. -/
theorem Shape.reg_after_incReg (s : State) (r q : Reg) :
    ((Shape.incReg r).after s).reg q = (s.quiet.setReg r (inc8 (s.reg r)).1).reg q := by
  rw [Shape.after, State.complete_reg, State.incReg, (carriedByLoads_f _).reg, State.quiet_reg]

theorem Shape.frame_after_incReg (s : State) (r : Reg) : Frame s ((Shape.incReg r).after s) [r] [] := by
  refine Shape.frame_after (fun q hq => ?_) fun a _ => Shape.byteAt_after_of_not_stores s rfl a
  have hqr : q ≠ r := by simpa using hq
  rw [Shape.reg_after_incReg, State.reg_setReg_other _ _ hqr, State.quiet_reg]

/-! ## INC of HL -/

theorem Shape.f_after_incHL (s : State) : (Shape.incHL.after s).f = (inc16 (s.pair .HL)).2 := by
  simp [Shape.after, State.incHL]

/-- INC(HL) leaves in H and L the two bytes of the incremented word: the carry from L reaches H (R222). -/
theorem Shape.pair_after_incHL (s : State) : (Shape.incHL.after s).pair .HL = (inc16 (s.pair .HL)).1 := by
  rw [Shape.after, State.complete_pair, State.incHL, (carriedByLoads_f _).pair, State.pair_setPair_same, State.quiet_pair]

theorem Shape.frame_after_incHL (s : State) : Frame s (Shape.incHL.after s) [.H, .L] [] := by
  refine Shape.frame_after (fun r hr => ?_) fun a _ => Shape.byteAt_after_of_not_stores s rfl a
  obtain ⟨hH, hL⟩ : r ≠ .H ∧ r ≠ .L := by simpa using hr
  rw [Shape.after, State.complete_reg, State.incHL, (carriedByLoads_f _).reg, State.reg_setPair_other _ _ hH hL,
    State.quiet_reg]

end Sys2Proof.Machine

namespace Sys2Proof.Proofs

open Sys2Proof.Machine Sys2Proof.Claims

/-- Settles O32: the register takes its old byte's increment, F the increment's flags. -/
theorem incIncrementsRegister : Obligations.IncIncrementsRegister := by
  intro r s
  have hk : shapeOf (Instr.incReg r).tagged = some (.incReg r) := by simp [shapeOf]
  have hreg : ((Shape.incReg r).after s).reg r = (inc8 (s.reg r)).1 := by
    rw [Shape.reg_after_incReg, State.reg_setReg_same]
  refine ⟨?_, _, exec_completes hk rfl, ?_, ?_, Shape.after_sp s rfl, Shape.frame_after_incReg s r,
    Shape.completed_after s _⟩
  · rw [encode, Instr.tagged_incReg]
    cases r <;> rfl
  · rw [hreg, toNat_inc8]
  · rw [hreg, Shape.f_after_incReg]
    exact isFlags_inc8 _

/-- Settles O33: the pair takes its old word's increment, F the increment's flags. -/
theorem incIncrementsPairHl : Obligations.IncIncrementsPairHl := by
  intro s
  have hk : shapeOf Instr.incPairHL.tagged = some .incHL := rfl
  refine ⟨rfl, _, exec_completes hk rfl, ?_, ?_, Shape.after_sp s rfl, Shape.frame_after_incHL s,
    Shape.completed_after s _⟩
  · rw [Shape.pair_after_incHL, toNat_inc16]
  · rw [Shape.pair_after_incHL, Shape.f_after_incHL]
    exact isFlags_inc16 _

end Sys2Proof.Proofs
end

section
/-! What AND, OR and XOR do (spec/44_logic.md). Each is a family of three operand forms that works on A and one source; the
flags are said once, for the byte the three leave in A (R230). -/

namespace Sys2Proof.Machine

open Sys2Proof.Claims

/-- The flags of a logical operation: Z tests the result, H is the family's own, N and C are clear (spec/44_logic.md R230). -/
theorem isFlags_logicFlags {h : Bool} {H : Prop} (hH : h = true ↔ H) (res : U8) :
    IsFlags (logicFlags h res) (res = 0) False H False :=
  isFlags_flags.2 ⟨decide_eq_true_iff, Bool.false_eq_true.to_iff, hH, Bool.false_eq_true.to_iff⟩

/-- An operation whose effect is a byte in A and the logical flags of that byte leaves both in the completed state. -/
theorem AluOp.Leaves.logic {op : AluOp} {s t : State} {v res : U8} {h : Bool} {H : Prop} (ht : op.Leaves s v t)
    (heffect : op.effect s v = { s with a := res, f := logicFlags h res }) (hH : h = true ↔ H) :
    t.a = res ∧ IsFlags t.f (t.a = 0) False H False ∧ t.sp = s.sp ∧ Frame s t [.A] [] := by
  have ha : t.a = res := by rw [ht.a, heffect]
  have hf : t.f = logicFlags h res := by rw [ht.f, heffect]
  refine ⟨ha, ?_, ht.sp, ht.frame⟩
  rw [ha, hf]
  exact isFlags_logicFlags hH res

end Sys2Proof.Machine

namespace Sys2Proof.Proofs

open Sys2Proof.Machine Sys2Proof.Claims

/-- Settles O28: A takes the bitwise and, and H is set. -/
theorem andMasksAccumulator : Obligations.AndMasksAccumulator := by
  intro s
  have hforms : AluOp.and.Forms Instr.andReg .andMemHL Instr.andImm := ⟨Instr.tagged_andReg, rfl, fun _ => rfl⟩
  exact hforms.aluForms fun v t ht => ht.logic rfl (eq_self true).to_iff

/-- Settles O29: A takes the bitwise or, and H is clear. -/
theorem orSetsBitsOfAccumulator : Obligations.OrSetsBitsOfAccumulator := by
  intro s
  have hforms : AluOp.or.Forms Instr.orReg .orMemHL Instr.orImm := ⟨Instr.tagged_orReg, rfl, fun _ => rfl⟩
  exact hforms.aluForms fun v t ht => ht.logic rfl Bool.false_eq_true.to_iff

/-- Settles O30: A takes the exclusive or, and H is clear. -/
theorem xorTogglesBitsOfAccumulator : Obligations.XorTogglesBitsOfAccumulator := by
  intro s
  have hforms : AluOp.xor.Forms Instr.xorReg .xorMemHL Instr.xorImm := ⟨Instr.tagged_xorReg, rfl, fun _ => rfl⟩
  exact hforms.aluForms fun v t ht => ht.logic rfl Bool.false_eq_true.to_iff

end Sys2Proof.Proofs
end

section
/-! What ADD16 does (spec/45_add16.md). The F it computes is `flags` of the old Z and the two carries; the state an ADD16
completes in is said once, for any of the four sources. -/

namespace Sys2Proof.Machine

open Sys2Proof.Claims

/-! ## The sum and its flags -/

/-- The mask of bit 7 leaves `flags` of Z alone. -/
theorem and_0x80_eq_flags (f : U8) : f &&& 0x80#8 = flags (flagZ f) false false false := by
  have hmask : ∀ z : Bool, flags z false false false &&& 0x80#8 = flags z false false false := by decide
  rw [← and_0x80_eq_of_flagZ (flagZ_flags (flagZ f) false false false), hmask]

/-- ADD16 computes `flags` of the old Z, no N, the carry out of bit 11 and the carry out of bit 15 (spec/45_add16.md R251). -/
theorem add16_f (f : U8) (hl v : U16) :
    (add16 f hl v).2 =
      flags (flagZ f) false (decide (hl.toNat % 4096 + v.toNat % 4096 > 0xFFF)) (decide (hl.toNat + v.toNat > 0xFFFF)) := by
  have hor : ∀ z h c : Bool,
      flags z false false false ||| (if h then 0x20#8 else 0#8) ||| (if c then 0x10#8 else 0#8) = flags z false h c := by
    decide
  rw [← hor, add16, and_0x80_eq_flags]
  simp only [decide_eq_true_eq]

/-- The flags of ADD16, each by its own condition: Z is the old Z (R250). -/
theorem isFlags_add16 (f : U8) (hl v : U16) :
    IsFlags (add16 f hl v).2 (flagZ f = true) False (hl.toNat % 4096 + v.toNat % 4096 > 0xFFF)
      (hl.toNat + v.toNat > 0xFFFF) := by
  rw [add16_f]
  exact isFlags_flags.2 ⟨Iff.rfl, Bool.false_eq_true.to_iff, decide_eq_true_iff, decide_eq_true_iff⟩

theorem toNat_add16 (f : U8) (hl v : U16) : (add16 f hl v).1.toNat = (hl.toNat + v.toNat) % 65536 :=
  BitVec.toNat_ofNat ..

/-- ADD16 is the sum of words. -/
theorem add16_eq_add (f : U8) (hl v : U16) : (add16 f hl v).1 = hl + v :=
  rfl

/-! ## The laws of R252 -/

theorem add16_keeps_bit7 (f : U8) (hl v : U16) : (add16 f hl v).2 &&& 0x80#8 = f &&& 0x80#8 :=
  and_0x80_eq_of_flagZ (by rw [add16_f, flagZ_flags])

theorem add16_clears_other_bits (f : U8) (hl v : U16) : (add16 f hl v).2 &&& 0x4F#8 = 0 := by
  have hmask : ∀ z h c : Bool, flags z false h c &&& 0x4F#8 = 0 := by decide
  rw [add16_f, hmask]

/-- A carry out of bit 15 shows as a sum below either operand. -/
theorem add16_carry_iff (f : U8) (hl v : U16) :
    (flagC (add16 f hl v).2 = true ↔ (add16 f hl v).1.toNat < hl.toNat) ∧
      (flagC (add16 f hl v).2 = true ↔ (add16 f hl v).1.toNat < v.toNat) := by
  obtain ⟨-, -, -, hC, -⟩ := isFlags_iff.1 (isFlags_add16 f hl v)
  have hhl := hl.isLt
  have hv := v.isLt
  rw [hC, toNat_add16]
  omega

/-- A carry out of bit 11 shows as a sum whose low twelve bits are below those of HL. -/
theorem add16_halfCarry_iff (f : U8) (hl v : U16) :
    flagH (add16 f hl v).2 = true ↔ (add16 f hl v).1.toNat % 4096 < hl.toNat % 4096 := by
  obtain ⟨-, -, hH, -⟩ := isFlags_iff.1 (isFlags_add16 f hl v)
  rw [hH, toNat_add16]
  omega

/-- With a zero source there is no carry: HL is as it was, and of F its bit 7 alone is left. -/
theorem add16_zero (f : U8) (hl : U16) : add16 f hl 0 = (hl, f &&& 0x80#8) := by
  have hhl := hl.isLt
  have hzero : (0 : U16).toNat = 0 := rfl
  refine Prod.ext ((add16_eq_add f hl 0).trans (BitVec.add_zero hl)) ?_
  have hH : ¬ hl.toNat % 4096 + (0 : U16).toNat % 4096 > 0xFFF := by omega
  have hC : ¬ hl.toNat + (0 : U16).toNat > 0xFFFF := by omega
  rw [add16_f, decide_eq_false hH, decide_eq_false hC, and_0x80_eq_flags]

/-! ## The state an ADD16 completes in -/

@[simp] theorem src16Val_quiet (x : Src16) (s : State) : src16Val x s.quiet = src16Val x s := by
  cases x with
  | pair p => exact State.quiet_pair s p
  | sp => rfl

theorem Shape.f_after_add16 (s : State) (x : Src16) :
    ((Shape.add16 x).after s).f = (Machine.add16 s.f (s.pair .HL) (src16Val x s)).2 := by
  simp [Shape.after, State.add16]

/-- HL takes the sum, of the old HL and the old source also when that is HL itself (R251). -/
theorem Shape.pair_after_add16 (s : State) (x : Src16) :
    ((Shape.add16 x).after s).pair .HL = (Machine.add16 s.f (s.pair .HL) (src16Val x s)).1 := by
  rw [Shape.after, State.complete_pair, State.add16, (carriedByLoads_f _).pair, State.pair_setPair_same, State.quiet_f,
    State.quiet_pair, src16Val_quiet]

theorem Shape.frame_after_add16 (s : State) (x : Src16) : Frame s ((Shape.add16 x).after s) [.H, .L] [] := by
  refine Shape.frame_after (fun r hr => ?_) fun a _ => Shape.byteAt_after_of_not_stores s rfl a
  obtain ⟨hH, hL⟩ : r ≠ .H ∧ r ≠ .L := by simpa using hr
  rw [Shape.after, State.complete_reg, State.add16, (carriedByLoads_f _).reg, State.reg_setPair_other _ _ hH hL,
    State.quiet_reg]

/-- ADD16 of a pair has that pair as its source. -/
theorem shapeOf_add16Pair (p : Pair) : shapeOf (Instr.add16Pair p).tagged = some (.add16 (.pair p)) := by
  simp [shapeOf]

end Sys2Proof.Machine

namespace Sys2Proof.Proofs

open Sys2Proof.Machine Sys2Proof.Claims

/-- Settles O34: for each of the four sources HL takes the sum, F the flags of the sum. -/
theorem add16AddsIntoHl : Obligations.Add16AddsIntoHl := by
  intro s gives
  have hgives {i : Instr} {x : Src16} (hk : shapeOf i.tagged = some (.add16 x)) : gives i (src16Val x s) := by
    refine ⟨_, exec_completes hk rfl, ?_, ?_, Shape.after_sp s rfl, Shape.frame_after_add16 s x, Shape.completed_after s _⟩
    · rw [Shape.pair_after_add16, toNat_add16]
    · rw [Shape.f_after_add16]
      exact isFlags_add16 ..
  refine ⟨fun p => ⟨?_, hgives (shapeOf_add16Pair p)⟩, rfl, hgives (x := .sp) rfl⟩
  rw [encode, Instr.tagged_add16Pair]
  cases p <;> rfl

/-- Settles O35: what stands in HL and F after an ADD16 is the sum and its flags, and the laws are laws of those. -/
theorem add16Laws : Obligations.Add16Laws := by
  intro s t i v hi hexec
  obtain ⟨x, hk, rfl⟩ : ∃ x, shapeOf i.tagged = some (.add16 x) ∧ v = src16Val x s := by
    obtain ⟨p, rfl, hv⟩ | ⟨rfl, hv⟩ := hi
    · exact ⟨.pair p, shapeOf_add16Pair p, hv⟩
    · exact ⟨.sp, rfl, hv⟩
  have ht : (Shape.add16 x).after s = t := Host.Outcome.next.inj ((exec_completes hk rfl).symm.trans hexec)
  rw [← ht, Shape.pair_after_add16, Shape.f_after_add16]
  obtain ⟨hcarryHl, hcarryV⟩ := add16_carry_iff s.f (s.pair .HL) (src16Val x s)
  refine ⟨add16_eq_add .., add16_keeps_bit7 .., add16_clears_other_bits .., hcarryHl, hcarryV, add16_halfCarry_iff ..,
    fun hzero => ?_⟩
  rw [hzero, add16_zero]
  exact ⟨rfl, rfl⟩

end Sys2Proof.Proofs
end

section
/-! The faults (spec/60_exceptions.md R260 to R266): a legal word faults at the first address out of range of the access table
and otherwise keeps the latch, an illegal word faults whatever the state holds, and nothing but a presented word sets the latch
or but reset clears it. -/

namespace Sys2Proof.Machine

open Sys2Proof.Claims

/-! ## An accepted word -/

/-- An illegal word takes InvariantViolation and changes nothing else (R262, R263). -/
theorem executeWord_of_illegal {w : Di32} {why : Illegal} (s : State) (h : decode w = .error why) :
    executeWord w s = .next (faultedState s 2 0 w) :=
  executeWord_of_decode_error s h

/-- The first address out of range of a shape is that of the access table (R261). -/
theorem Shape.badAddr_eq_find_accessTable {i : Instr} {k : Shape} (hk : shapeOf i.tagged = some k) (s : State) :
    k.badAddr s =
      ((Claims.accessTable i.tagged s).find? fun x => decide (s.cfg.memSize ≤ x.2.toNat)).map Prod.snd := by
  have htable : k.accessTable s = Claims.accessTable i.tagged s := by simpa [hk] using shapeOf_accessTable i s
  rw [Shape.badAddr, ← Shape.accessTable_addrs, htable, List.find?_map]
  rfl

section
variable {w : Di32} {i : Instr} {k : Shape} {s : State} (hdec : decode w = .ok i) (hk : shapeOf i.tagged = some k)
include hdec hk

/-- A legal word takes MemOutOfRange at its first address out of range, recording the word itself (R263, R266). -/
theorem executeWord_of_badAddr_some {a : U16} (h : k.badAddr s = some a) :
    executeWord w s = .next (faultedState s 1 a w) := by
  rw [executeWord_of_decode s hdec, exec_faults hk h, decode_eq_ok_iff.1 hdec]
  rfl

theorem executeWord_of_badAddr_none (h : k.badAddr s = none) : executeWord w s = .next (k.after s) :=
  (executeWord_of_decode s hdec).trans (exec_completes hk h)

end

/-- What a legal word does to the latch: nothing, or MemOutOfRange with an address out of range (R260, R263). -/
theorem exists_executeWord_of_legal {w : Di32} {i : Instr} (s : State) (hdec : decode w = .ok i) :
    ∃ t, executeWord w s = .next t ∧
      (t.fault = s.fault ∨ ∃ a : U16, s.cfg.memSize ≤ a.toNat ∧ t = faultedState s 1 a w) := by
  obtain ⟨k, hk⟩ := exists_shapeOf i
  cases hbad : k.badAddr s with
  | none => exact ⟨_, executeWord_of_badAddr_none hdec hk hbad, .inl (Shape.after_keeps s k).2⟩
  | some a =>
    have hout : s.cfg.memSize ≤ a.toNat := by simpa using List.find?_some hbad
    exact ⟨_, executeWord_of_badAddr_some hdec hk hbad, .inr ⟨a, hout, rfl⟩⟩

/-! ## An instant at the ports -/

theorem portInstant_reset {p : PortInput} (s : State) (hrst : p.rst = true) : portInstant p s = .next s.resetBlock :=
  if_pos hrst

/-- An instant that sets the latch of an unfaulted block was that of a word, without reset (R260). -/
theorem executeWord_of_portInstant_sets_latch {p : PortInput} {s t : State} (hok : s.fault.valid = false)
    (h : portInstant p s = .next t) (ht : t.fault.valid = true) :
    p.rst = false ∧ ∃ w, p.exec = some w ∧ executeWord w s = .next t := by
  have hkeeps {u : State} (hu : portInstant p s = .next u) : u.fault.valid = true := by
    rwa [Host.Outcome.next.inj (hu.symm.trans h)]
  cases hrst : p.rst with
  | true => cases hkeeps (portInstant_reset s hrst)
  | false =>
    cases hexec : p.exec with
    | some w => exact ⟨rfl, w, rfl, (portInstant_word hok hrst hexec).symm.trans h⟩
    | none =>
      cases hwrite : p.hostWrite with
      | some hw =>
        obtain ⟨-, -, hfault⟩ := State.hostWrite_keeps s.quiet hw
        have hset := hkeeps (portInstant_hostWrite hok hrst hexec hwrite)
        cases (hfault ▸ hset : s.quiet.fault.valid = true).symm.trans hok
      | none => cases (hkeeps (portInstant_nothing hok hrst hexec hwrite)).symm.trans hok

/-! ## A FAULTED block -/

section
variable {s : State} (hfaulted : s.fault.valid = true)
include hfaulted

theorem State.execReady_of_faulted : s.execReady = false := by
  simp [State.execReady, State.blockState, hfaulted]

theorem State.hwReady_of_faulted (p : PortInput) : s.hwReady p = false := by
  simp [State.hwReady, State.blockState, hfaulted]

/-- A FAULTED block is stopped in an instant without an action (spec/11_interfaces.md R59). -/
theorem idleInstant_of_faulted : idleInstant s = .fault s.stopReason := by
  simp [idleInstant, State.execReady_of_faulted hfaulted]

/-- A FAULTED block takes nothing at its ports but reset (R51, R59). -/
theorem portInstant_of_faulted {p : PortInput} (hrst : p.rst = false) : portInstant p s = .fault s.stopReason := by
  cases hexec : p.exec with
  | some w => simp [portInstant, hrst, hexec, State.execReady_of_faulted hfaulted]
  | none =>
    cases hwrite : p.hostWrite with
    | some hw => simp [portInstant, hrst, hexec, hwrite, State.hwReady_of_faulted hfaulted]
    | none => simp [portInstant, hrst, hexec, hwrite, idleInstant_of_faulted hfaulted]

end

/-! ## Reset -/

theorem allZero_resetBlock (s : State) : AllZero s.resetBlock :=
  ⟨fun r => by cases r <;> rfl, rfl, rfl, rfl, rfl⟩

/-- A reset in mid-step leaves what a reset leaves, but for memory and the record (spec/70_reset_and_hazards.md R293). -/
theorem allZero_abandonedStep (w : Di32) (made : Nat) (s : State) : AllZero (abandonedStep w made s) :=
  allZero_resetBlock s

end Sys2Proof.Machine

namespace Sys2Proof.Proofs

open Sys2Proof.Machine Sys2Proof.Claims

/-- Settles O40: a word that selects no row does not decode; one that does can only take MemOutOfRange. -/
theorem illegalWordRaisesInvariantViolation : Obligations.IllegalWordRaisesInvariantViolation := by
  intro s w rest hok hin
  have hstep : step s = executeWord w { s with inputs := rest } := step_of_word hok hin rfl rfl
  rw [hstep]
  refine ⟨fun hnone => ?_, fun hsel => ?_⟩
  · cases hdec : decode w with
    | error why => exact executeWord_of_illegal _ hdec
    | ok i =>
      obtain ⟨row, hrow, hsel⟩ := (legalWordsAreTheOpcodeTable w).1 ⟨i, hdec⟩
      cases (hnone row hrow).symm.trans hsel
  · obtain ⟨i, hdec⟩ := (legalWordsAreTheOpcodeTable w).2 hsel
    obtain ⟨t, ht, hkept | ⟨a, -, rfl⟩⟩ := exists_executeWord_of_legal { s with inputs := rest } hdec
    · refine ⟨t, ht, fun hvalid => ?_⟩
      cases (hkept ▸ hvalid : s.fault.valid = true).symm.trans hok
    · exact ⟨_, ht, fun _ => rfl⟩

/-- Settles O41: the first address out of range of the table is the shape's, and decides whether the word completes. -/
theorem faultsFollowTheirPriorityAndCommitNothing : Obligations.FaultsFollowTheirPriorityAndCommitNothing := by
  intro s w
  cases hdec : decode w with
  | error why => exact executeWord_of_illegal s hdec
  | ok i =>
    obtain ⟨k, hk⟩ := exists_shapeOf i
    have hbad := Shape.badAddr_eq_find_accessTable hk s
    dsimp only
    split
    · next x hx =>
      rw [hx] at hbad
      exact executeWord_of_badAddr_some hdec hk hbad
    · next hx =>
      rw [hx] at hbad
      exact ⟨_, executeWord_of_badAddr_none hdec hk hbad, (Shape.after_keeps s k).2, Shape.after_execDone s k⟩

/-- Settles O42: an idle instant, a store of the host and a reset in mid-step leave no latch set; at the ports a word alone can
set it. -/
theorem onlyPresentedWordsRaiseFaults : Obligations.OnlyPresentedWordsRaiseFaults := by
  intro s t hok hstep ht
  cases hin : s.inputs with
  | nil =>
    obtain rfl := idleInstant_cases ((step_of_inputs_nil hin).symm.trans hstep)
    cases ht.symm.trans hok
  | cons x rest =>
    have hperform := (step_of_inputs_cons hin).symm.trans hstep
    cases x with
    | memory a v =>
      obtain ⟨-, rfl⟩ := hostStore_cases hperform
      cases ht.symm.trans hok
    | abandoned w made =>
      obtain rfl : _ = t := Host.Outcome.next.inj hperform
      cases ht
    | ports p =>
      obtain ⟨hrst, w, hexec, hword⟩ :=
        executeWord_of_portInstant_sets_latch (s := { s with inputs := rest }) hok hperform ht
      refine ⟨p, w, rest, rfl, hexec, hrst, ?_⟩
      cases hdec : decode w with
      | error why =>
        exact .inr ⟨⟨why, rfl⟩, Host.Outcome.next.inj (hword.symm.trans (executeWord_of_illegal _ hdec))⟩
      | ok i =>
        obtain ⟨u, hu, hkept | ⟨a, hout, rfl⟩⟩ := exists_executeWord_of_legal { s with inputs := rest } hdec
        · obtain rfl : t = u := Host.Outcome.next.inj (hword.symm.trans hu)
          cases (hkept ▸ ht : s.fault.valid = true).symm.trans hok
        · exact .inl ⟨a, i, rfl, hout, Host.Outcome.next.inj (hword.symm.trans hu)⟩

/-- Settles O43: without reset the ports and an idle instant answer the latch's fault, and a store of the host changes memory
alone. -/
theorem onlyResetLeavesFaulted : Obligations.OnlyResetLeavesFaulted := by
  intro s hfaulted
  have hidle (hin : s.inputs = []) : step s = .fault s.stopReason :=
    (step_of_inputs_nil hin).trans (idleInstant_of_faulted hfaulted)
  have hports (p rest) (hin : s.inputs = .ports p :: rest) (hrst : p.rst = false) : step s = .fault s.stopReason :=
    (step_of_inputs_cons hin).trans (portInstant_of_faulted (s := { s with inputs := rest }) hfaulted hrst)
  refine ⟨hidle, hports, fun t hstep => ?_⟩
  cases hin : s.inputs with
  | nil => cases (hidle hin).symm.trans hstep
  | cons x rest =>
    have hperform := (step_of_inputs_cons hin).symm.trans hstep
    cases x with
    | memory a v =>
      obtain ⟨-, rfl⟩ := hostStore_cases hperform
      exact .inr ⟨a, v, rest, rfl, rfl⟩
    | abandoned w made =>
      obtain rfl : _ = t := Host.Outcome.next.inj hperform
      exact .inl ⟨_, rest, rfl, trivial, allZero_abandonedStep ..⟩
    | ports p =>
      cases hrst : p.rst with
      | false => cases (hports p rest hin hrst).symm.trans hstep
      | true =>
        obtain rfl : _ = t := Host.Outcome.next.inj ((portInstant_reset _ hrst).symm.trans hperform)
        exact .inl ⟨_, rest, rfl, hrst, allZero_resetBlock _⟩

end Sys2Proof.Proofs
end

section
/-! Reset, reset in mid-step and the run of a program (spec/70_reset_and_hazards.md R290 to R296): a reset leaves memory but for
the accesses already made, and the step of a listed word carries the words still to come through. -/

namespace Sys2Proof.Machine

open Sys2Proof.Claims

/-! ## Reset in mid-push -/

/-- The accesses of an accepted word are those its step records. -/
theorem wordAccesses_of_executeWord {w : Di32} {s t : State} (hok : s.fault.valid = false)
    (h : executeWord w s = .next t) : wordAccesses w s = t.out.accesses := by
  rw [wordAccesses, if_pos (State.execReady_of_unfaulted hok), h]

section
variable {s : State} {i : Instr} {word : Di32} {hi lo : U8} (hpush : PushForm s i word hi lo)
  (hok : s.fault.valid = false) (h0 : s.sp.toNat < s.cfg.memSize) (h1 : (s.sp - 1).toNat < s.cfg.memSize)
include hpush hok h0 h1

theorem wordAccesses_of_pushForm : wordAccesses (encode i) s = [.write s.sp hi, .write (s.sp - 1) lo] := by
  obtain ⟨-, hcompletes, -⟩ := hpush
  obtain ⟨t, hexec, -, -, -, -, -, hdone⟩ := hcompletes h0 h1
  have hword : executeWord (encode i) s = .next t := (executeWord_of_decode s (decode_eq_ok_iff.2 rfl)).trans hexec
  rw [wordAccesses_of_executeWord hok hword, hdone]

/-- A push abandoned after its first access has stored its high byte alone (R293). -/
theorem abandonedStep_mem_of_pushForm : (abandonedStep (encode i) 1 s).mem = Memory.write s.mem s.sp.toNat hi := by
  rw [abandonedStep, wordAccesses_of_pushForm hpush hok h0 h1]
  rfl

end

/-- The step in which a push is abandoned after its first access. -/
theorem step_of_abandoned_push {s : State} {i : Instr} {rest : List Input} {word : Di32} {hi lo : U8}
    (hin : s.inputs = .abandoned (encode i) 1 :: rest) (hpush : PushForm { s with inputs := rest } i word hi lo)
    (hok : s.fault.valid = false) (h0 : s.sp.toNat < s.cfg.memSize) (h1 : (s.sp - 1).toNat < s.cfg.memSize) :
    ∃ t, step s = .next t ∧ AllZero t ∧ byteAt t s.sp.toNat = hi ∧
      (∀ a, a ≠ s.sp.toNat → byteAt t a = byteAt s a) ∧ t.out.execDone = false := by
  have hmem := abandonedStep_mem_of_pushForm hpush hok h0 h1
  refine ⟨_, step_of_inputs_cons hin, allZero_abandonedStep .., ?_, fun a ha => ?_, rfl⟩
  · exact (congrArg (Memory.read · _) hmem).trans (Memory.read_write_same ..)
  · exact (congrArg (Memory.read · a) hmem).trans (Memory.read_write_other _ _ ha)

/-! ## An accepted word and the words still to come -/

theorem carriedByAlu_inputs (rest : List Input) : CarriedByAlu fun s => { s with inputs := rest } where
  reg _ r := by cases r <;> rfl
  cfg _ := rfl
  mem _ := rfl
  out _ := rfl
  setReg _ r _ := by cases r <;> rfl
  setMem _ _ := rfl
  setOut _ _ := rfl
  takeFault _ _ _ _ := rfl
  effect op _ _ := by cases op <;> rfl
  incReg _ r := by cases r <;> rfl
  incHL _ := rfl
  add16Pair _ p := by cases p <;> rfl

/-- No shape reads or writes the host's list. -/
theorem Shape.after_withInputs (k : Shape) (s : State) (rest : List Input) :
    k.after { s with inputs := rest } = { k.after s with inputs := rest } := by
  cases k with
  | pushPair p | popPair p => cases p <;> rfl
  | pushAf | popAf => rfl
  | add16 x =>
    cases x with
    | sp => rfl
    | pair p => exact (carriedByAlu_inputs rest).after s rfl
  | move _ _ | loadPair _ _ | alu _ _ | incReg _ | incHL => exact (carriedByAlu_inputs rest).after s rfl

/-- A word does the same whatever the host has listed after it, and leaves the list. -/
theorem executeWord_withInputs {w : Di32} {s t : State} (rest : List Input) (h : executeWord w s = .next t) :
    executeWord w { s with inputs := rest } = .next { t with inputs := rest } := by
  cases hdec : decode w with
  | ok i =>
    obtain ⟨k, hk⟩ := exists_shapeOf i
    rw [executeWord_of_decode _ hdec] at h ⊢
    exact (carriedByAlu_inputs rest).exec hk (fun _ => rfl) (k.after_withInputs s rest) h
  | error why =>
    obtain rfl : _ = t := Host.Outcome.next.inj ((executeWord_of_illegal s hdec).symm.trans h)
    exact executeWord_of_illegal _ hdec

theorem executeWord_inputs {w : Di32} {s t : State} (h : executeWord w s = .next t) : t.inputs = s.inputs := by
  have hkept : t = { t with inputs := s.inputs } :=
    Host.Outcome.next.inj (h.symm.trans (executeWord_withInputs s.inputs h))
  rw [hkept]

/-- Every word, legal or not, has a next state. -/
theorem exists_executeWord (w : Di32) (s : State) : ∃ t, executeWord w s = .next t := by
  cases hdec : decode w with
  | ok i =>
    obtain ⟨t, ht, -⟩ := exists_executeWord_of_legal s hdec
    exact ⟨t, ht⟩
  | error why => exact ⟨_, executeWord_of_illegal s hdec⟩

/-! ## The steps of a program -/

theorem State.withProgram_nil {s : State} (hin : s.inputs = []) : s.withProgram [] = s := by
  rw [State.withProgram, List.map_nil, ← hin]

/-- A listed program presents its first word alone at the ports, with the later words still to come. -/
theorem step_withProgram_cons (w : Di32) (ws : List Di32) (s : State) :
    step (s.withProgram (w :: ws)) =
      portInstant { rst := false, exec := some w, hostWrite := none } (s.withProgram ws) :=
  step_of_inputs_cons (s := s.withProgram (w :: ws)) rfl

/-- An unfaulted block executes the first word of a program. -/
theorem step_withProgram_of_unfaulted {w : Di32} {s t : State} (ws : List Di32) (hok : s.fault.valid = false)
    (h : executeWord w s = .next t) : step (s.withProgram (w :: ws)) = .next (t.withProgram ws) := by
  rw [step_withProgram_cons, portInstant_word (s := s.withProgram ws) hok rfl rfl]
  exact executeWord_withInputs _ h

/-- A FAULTED block executes no word of a program (spec/11_interfaces.md R59). -/
theorem step_withProgram_of_faulted {s : State} (ws : List Di32) (hfaulted : s.fault.valid = true) :
    step (s.withProgram ws) = .fault s.stopReason := by
  cases ws with
  | nil => exact (step_of_inputs_nil rfl).trans (idleInstant_of_faulted (s := s.withProgram []) hfaulted)
  | cons w ws =>
    rw [step_withProgram_cons]
    exact portInstant_of_faulted (s := s.withProgram ws) hfaulted rfl

section
variable {s : State}

theorem run_succ_of_next {t : State} (n : Nat) (h : step s = .next t) :
    Host.Core.run Sys2Proof.core (n + 1) s = Host.Core.run Sys2Proof.core n t := by
  simp only [Host.Core.run, Sys2Proof.core, h]

theorem run_succ_of_fault {why : Fault} (n : Nat) (h : step s = .fault why) :
    Host.Core.run Sys2Proof.core (n + 1) s = .fault why := by
  simp only [Host.Core.run, Sys2Proof.core, h]

end

/-! ## The run of a program -/

section
variable {w : Di32} {s t : State} (ws : List Di32) (h : executeWord w s = .next t)
include h

theorem runProgram_cons_of_faulted (ht : t.fault.valid = true) : runProgram (w :: ws) s = .faulted t := by
  simp [runProgram, h, ht]

theorem runProgram_cons_of_unfaulted (ht : t.fault.valid = false) : runProgram (w :: ws) s = runProgram ws t := by
  simp [runProgram, h, ht]

end

end Sys2Proof.Machine

namespace Sys2Proof.Proofs

open Sys2Proof.Machine Sys2Proof.Claims

/-- Settles O45: each of the four is a push of two bytes, of which one access has stored the high one. -/
theorem resetInMidPushLeavesHalfThePush : Obligations.ResetInMidPushLeavesHalfThePush := by
  intro s rest hok h0 h1
  obtain ⟨hpair, haf⟩ := pushStoresPairBelowStackPointer { s with inputs := rest }
  refine ⟨fun p hin => ?_, fun hin => step_of_abandoned_push hin haf hok h0 h1⟩
  rw [← (carriedByAlu_inputs rest).reg s]
  exact step_of_abandoned_push hin (hpair p) hok h0 h1

/-- Settles O59, by induction on the words: the first word is one step, and the run stops there if it faults. -/
theorem programRunIsCompositionOfSteps : Obligations.ProgramRunIsCompositionOfSteps := by
  intro ws
  induction ws with
  | nil => exact fun s hok hin => ⟨hok, congrArg Host.Outcome.next (State.withProgram_nil hin)⟩
  | cons w ws ih =>
    intro s hok hin
    obtain ⟨t, hword⟩ := exists_executeWord w s
    have hstep : step (s.withProgram (w :: ws)) = .next (t.withProgram ws) :=
      step_withProgram_of_unfaulted ws hok hword
    cases ht : t.fault.valid with
    | true =>
      rw [runProgram_cons_of_faulted ws hword ht]
      refine ⟨ht, 0, Nat.succ_pos _, run_succ_of_next 0 hstep, fun m => ?_⟩
      rw [show 0 + 2 + m = m + 1 + 1 by omega, run_succ_of_next _ hstep]
      exact run_succ_of_fault m (step_withProgram_of_faulted ws ht)
    | false =>
      rw [runProgram_cons_of_unfaulted ws hword ht]
      have hrest := ih t ht ((executeWord_inputs hword).trans hin)
      cases hrun : runProgram ws t with
      | completed u =>
        rw [hrun] at hrest
        obtain ⟨hu, hreach⟩ := hrest
        exact ⟨hu, (run_succ_of_next _ hstep).trans hreach⟩
      | faulted u =>
        rw [hrun] at hrest
        obtain ⟨hu, k, hk, hreach, hstop⟩ := hrest
        refine ⟨hu, k + 1, Nat.succ_lt_succ hk, (run_succ_of_next _ hstep).trans hreach, fun m => ?_⟩
        rw [show k + 1 + 2 + m = k + 2 + m + 1 by omega, run_succ_of_next _ hstep]
        exact hstop m

/-- Settles O44: reset replaces everything but memory, the parameters and the host's list. -/
theorem resetClearsBlockAndKeepsMemory : Obligations.ResetClearsBlockAndKeepsMemory := by
  refine ⟨allZero_resetBlock State.reset, fun s p rest hin hrst => ?_⟩
  have hstep : step s = .next ({ s with inputs := rest } : State).resetBlock :=
    (step_of_inputs_cons hin).trans (portInstant_reset _ hrst)
  exact ⟨_, hstep, allZero_resetBlock _, rfl, rfl, rfl, rfl, rfl⟩

end Sys2Proof.Proofs
end
